-- ==== Sys2Proof/Word.lean ====
section
/-! DEFINITION. The machine's words (rules R7, R8): a byte, the 16-bit request word, and byte sequences. -/

namespace Sys2Proof

/-- An 8-bit value; bit 0 is the least significant (rule R7). -/
abbrev Byte := BitVec 8

/-- The 16-bit request word `rq` (rule R80). -/
abbrev ReqWord := BitVec 16

/-- A byte sequence: a payload, or a payload followed by its checksum (rule R84). -/
abbrev Bytes := List Byte

end Sys2Proof
end

