-- ==== Sys2Proof/Machine/Types.lean ====
section
/-! DEFINITION. The enumerations, operands, table rows and port records of the engine, with the register codes the
spec gives them (rules R24, R25, R28, R260). No type here has a meaning of its own; the meanings are in the other
files of Machine/. -/

namespace Sys2Proof

/-! ## Register enumerations -/

/-- The closed set of outcomes (rule R260). -/
inductive ErrorKind where
  | noError | communicationError | dataCorrupted | writeFailed | badArgument | unknownData | unknownConfig
  | invalidSecond | invalidMinute | invalidHour | invalidDay | invalidMonth | invalidYear | invalidWeekday
  | invalidPeriod | invalidDutyCycle | invalidUsbCurrentLimit | invalidTripPoint
  deriving DecidableEq, Repr

/-- The 5-bit code of an outcome in the register `res` (rules R30, R260); 7 and 19 to 31 are never produced. -/
def ErrorKind.code : ErrorKind → BitVec 5
  | .noError => 0 | .communicationError => 1 | .dataCorrupted => 2 | .writeFailed => 3 | .badArgument => 4
  | .unknownData => 5 | .unknownConfig => 6 | .invalidSecond => 8 | .invalidMinute => 9 | .invalidHour => 10
  | .invalidDay => 11 | .invalidMonth => 12 | .invalidYear => 13 | .invalidWeekday => 14 | .invalidPeriod => 15
  | .invalidDutyCycle => 16 | .invalidUsbCurrentLimit => 17 | .invalidTripPoint => 18

/-- The FSM state register `st` (rule R24). Code 7 is reserved and unrepresentable (rule R24, U10). -/
inductive FsmState where
  | idle | wrTry | wrWait | rdTry | rdWait | cmp | done
  deriving DecidableEq, Repr

/-- The 3-bit code of `st` (rule R24). -/
def FsmState.code : FsmState → BitVec 3
  | .idle => 0 | .wrTry => 1 | .wrWait => 2 | .rdTry => 3 | .rdWait => 4 | .cmp => 5 | .done => 6

/-- The register `mode`: the transfer operation in progress (rule R25). -/
inductive Mode where
  | rd | wr | wrv | rmw
  deriving DecidableEq, Repr

/-- The 2-bit code of `mode` (rule R25). -/
def Mode.code : Mode → BitVec 2
  | .rd => 0 | .wr => 1 | .wrv => 2 | .rmw => 3

/-- The register `phase`: the retried stretch in progress (rule R25). Code 3 is reserved and unrepresentable. -/
inductive Phase where
  | pre | write | back
  deriving DecidableEq, Repr

/-- The 2-bit code of `phase` (rule R25). -/
def Phase.code : Phase → BitVec 2
  | .pre => 0 | .write => 1 | .back => 2

/-- The flag `lastfail`: the kind of the last failed read attempt (rule R28). -/
inductive FailKind where
  | comm | corrupt
  deriving DecidableEq, Repr

/-- The 1-bit code of `lastfail` (rule R28). -/
def FailKind.code : FailKind → BitVec 1
  | .comm => 0 | .corrupt => 1

/-! ## Operands -/

/-- The battery state of the status byte: four opaque labels (rule R105). -/
inductive BatteryState where
  | normal | bat1 | bat2 | bat3
  deriving DecidableEq, Repr

/-- The state of a power input: four opaque labels (rule R105). -/
inductive InputState where
  | notPresent | in1 | in2 | present
  deriving DecidableEq, Repr

/-- A name of an action (rule R103). `userFunc k` is `USER_FUNC`k and is in the default table for k from 1 to 15
only; `other` stands for any text that is no name of the table. -/
inductive ActionName where
  | noFunc | powerOn | powerOff | halt | reboot
  | userFunc (k : Nat)
  | other (tag : Nat)
  deriving DecidableEq, Repr

/-- The operand groups of all layouts (rules R94 to R104). `slot i` is the group `slot`i of `L_PAIRS`; `other`
stands for a group name that no layout has. -/
inductive Group where
  | fault | button | battery | primaryInput | secondaryInput
  | temperature | value | enable | delay | duty
  | second | minute | hour | weekday | day | month | year
  | slot (i : Nat)
  | other (tag : Nat)
  deriving DecidableEq, Repr

/-- A typed operand as it stands on the `args` port, and a typed value as `DEC` returns it (rules R93, R100, R101,
R104, R105, R106). `label` is a name of an enumeration of another table, `one`, `pair` and `all` a selection of a `mask`
field (rules R86, R106). Numbers are mathematical integers (rule R141). Any constructor may be offered for any group: one that
is not of the group's type is a wrong-type operand. -/
inductive Operand where
  | bool (b : Bool)
  | int (v : Int)
  | battery (b : BatteryState)
  | input (i : InputState)
  | h24 (h : Int) | am (h : Int) | pm (h : Int)
  | minuteOf (m : Int) | period (n : Int)
  | hourOf (h : Int) | hourAm (h : Int) | hourPm (h : Int) | hourPair (a b : Int) | everyHour
  | dayOfMonth (d : Int) | weekdayOf (d : Int) | weekdayPair (a b : Int) | everyDay
  | action (name : ActionName) (param : Int)
  | label (id : Nat)
  | one (i : Int) | pair (i j : Int) | all
  | other (tag : Nat)
  deriving DecidableEq, Repr

/-- The `args` port, and a decoded record: one entry per group named (rule R93). A group may be missing, repeated,
of the wrong type or unknown; `Sys2Proof.Machine.collect` says what is refused. -/
abbrev Args := List (Group × Operand)

/-- The response value `rval` (rule R30): `unit` is the absent value written `()`. -/
inductive RVal where
  | unit
  | byte (b : Byte)
  | bool (b : Bool)
  | frame (f : Bytes)
  | record (r : Args)
  deriving DecidableEq, Repr

/-! ## The command table -/

/-- The names of the rows of `DEFAULT_CMDTAB` (rule R91); `other` stands for any name of another table (rule R90). -/
inductive CmdName where
  | status | batteryTemperature | ioCurrent | chargingConfig | powerOff | buttonConfig | pwmDuty | rtcTime | rtcAlarm
  | other (tag : Nat)
  deriving DecidableEq, Repr

/-- The Command Groups (rules R2, R90). -/
inductive CmdGroup where
  | status | config | power | rtcAlarm
  deriving DecidableEq, Repr

/-- The field kinds (rule R86), with the width of the field where the kind does not fix it. `enum names` is
`enum(card, names)` with `card` the number of names. -/
inductive FieldKind where
  | flag
  | uint (w lo hi : Nat) (e : ErrorKind)
  | enum (w : Nat) (names : List Operand)
  | s8 | s16 | duty10
  | mask (nbits : Nat) (e : ErrorKind)
  deriving DecidableEq, Repr

/-- The width of a field of a kind (rule R86). -/
def FieldKind.width : FieldKind → Nat
  | .flag => 1 | .uint w _ _ _ => w | .enum w _ => w | .s8 => 8 | .s16 => 16 | .duty10 => 10 | .mask n _ => n

/-- One field of a layout: the group it belongs to, its position, its kind (rules R9, R86). -/
structure LayoutField where
  group : Group
  pos : Nat
  kind : FieldKind
  deriving DecidableEq, Repr

/-- The payload layouts: those of rules R94 to R104, and any list of fields of the kinds of rule R86, one group each, which
a row of another table may name (rules R90, R263, decided D6, D8). Log entry 9. -/
inductive Layout where
  | lStatus | lTemp | lS16 | lCtrl | lU8 | lDuty | lTime | lAlarm | lPairs
  | fields (fs : List LayoutField)
  deriving DecidableEq, Repr

/-- The comparators of verified writes (rule R240); the absent comparator is `none` in `CmdRow.verify`. -/
inductive Comparator where
  | vmask (m : Bytes)
  | timeFwd
  deriving DecidableEq, Repr

/-- One row of `CMDTAB` (rule R90). -/
structure CmdRow where
  name : CmdName
  group : CmdGroup
  code : Byte
  chans : Nat
  rlen : Option Nat
  wlen : Option Nat
  nv : Bool
  verify : Option Comparator
  layout : Layout
  unk : ErrorKind
  deriving DecidableEq, Repr

/-- One entry of `ACTION_TABLE` (rule R102). -/
structure ActionEntry where
  code : Byte
  name : ActionName
  scale : Nat
  deriving DecidableEq, Repr

/-! ## The parameters of the engine -/

/-- The parameters of rule R6 whose values the spec decides and that a model may take with other admissible values
(`Sys2Proof.paramsWellFormed`). The OPEN ones are the constants of Sys2Proof/Config.lean. -/
structure Params where
  /-- `FRAME_MAX`; `PAYLOAD_MAX` is `frameMax` − 1. -/
  frameMax : Nat
  /-- `DEFAULT_TRIES`. -/
  defaultTries : Byte
  /-- `YEAR_MIN`. -/
  yearMin : Nat
  /-- `YEAR_MAX`. -/
  yearMax : Nat
  /-- `YEAR_BASE`. -/
  yearBase : Nat
  /-- `PERIOD_MIN`. -/
  periodMin : Nat
  /-- `PERIOD_MAX`. -/
  periodMax : Nat
  /-- `CMDTAB`. -/
  cmdtab : List CmdRow
  /-- `ACTION_TABLE`. -/
  actions : List ActionEntry
  deriving DecidableEq, Repr

/-! ## Fields of a payload -/

/-- A value `v` for the field (`pos`, `w`) of a payload (rules R9, R142). -/
structure Field where
  pos : Nat
  w : Nat
  v : Nat
  deriving DecidableEq, Repr

/-- A selection over the positions of a mask field (rule R106). -/
inductive Selection where
  | one (i : Nat)
  | pair (i j : Nat)
  | all
  deriving DecidableEq, Repr

/-- The hour of the time frame (rule R100). -/
inductive HourT where
  | h24 (h : Nat) | am (h : Nat) | pm (h : Nat)
  deriving DecidableEq, Repr

/-- An unpacked `L_TIME` payload (rules R100, R192); `year` is the full year. -/
structure TimeVal where
  second : Nat
  minute : Nat
  hour : HourT
  weekday : Nat
  day : Nat
  month : Nat
  year : Nat
  deriving DecidableEq, Repr

/-! ## The ports -/

/-- A request on the request port: the request word and its operand ports (rule R80). -/
structure Request where
  word : ReqWord
  n : Byte
  args : Args
  bytes : Bytes
  deriving DecidableEq, Repr

/-- The two configuration registers (rule R31). -/
inductive CfgReg where
  | bus | addr
  deriving DecidableEq, Repr

/-- A write on the configuration port (rules R31, R282). -/
structure CfgWrite where
  reg : CfgReg
  val : Byte
  deriving DecidableEq, Repr

/-- One completed Transport call, with the handle it went to (rules R31, R52). -/
inductive Call where
  | read (bus addr reg : Byte) (len : Nat)
  | write (bus addr reg : Byte) (bytes : Bytes)
  deriving DecidableEq, Repr

/-- A change the ideal device makes by itself before a call (rule R64). -/
inductive DevChange where
  | tick (s : Nat)
  | set (c : Byte) (f : Bytes)
  deriving DecidableEq, Repr

/-- How one Transport call is answered (rules R53, R64).
`free`: by the unconstrained oracle. `reply f`: a read answers exactly the bytes `f`, a write answers `ok`.
`ioError`: `IOERR`. `ideal`: as the ideal device does. `corrupt k m`: `CORRUPT(k, m)`. `lose`: `LOSE`.
`never`: the call does not return (rule R312 c). -/
inductive AnswerRule where
  | free
  | reply (f : Bytes)
  | ioError
  | ideal
  | corrupt (k : Nat) (m : Byte)
  | lose
  | never
  deriving DecidableEq, Repr

/-- The script entry of one Transport call (rule R64): the device's own changes before the call, then the answer. -/
structure Override where
  before : List DevChange
  rule : AnswerRule
  deriving DecidableEq, Repr

/-- The ideal device's registers (rule R64): command code and stored frame, in the canonical form `Dev.wf`. -/
abbrev Dev := List (Nat × Bytes)

end Sys2Proof
end

