-- ==== Sys2Proof/Config.lean ====
section
/-! DEFINITION. The implementation parameters of rule R6, and the free values: constants without a body, of which
nothing can be proved. -/

namespace Sys2Proof.Config

/-! ## Parameters the spec decides (rule R6) -/

/-- `FRAME_MAX`: the largest frame in bytes (rule R6, decided D7). -/
def frameMax : Nat := 32

/-- `PAYLOAD_MIN` (rule R6). -/
def payloadMin : Nat := 1

/-- `DEFAULT_TRIES`: the operand `n` of a requester that gives none (rules R6, R82, decided D22). -/
def defaultTries : Byte := 5

/-- `YEAR_MIN` (rule R6, decided D34). -/
def yearMin : Nat := 2000

/-- `YEAR_MAX` (rule R6, decided D34). -/
def yearMax : Nat := 2099

/-- `YEAR_BASE`: the year stored as 0 (rule R6, decided D34). -/
def yearBase : Nat := 2000

/-- `PERIOD_MIN`: a period N is valid iff `PERIOD_MIN` < N ≤ `PERIOD_MAX` (rule R6, decided D34). -/
def periodMin : Nat := 0

/-- `PERIOD_MAX` (rule R6, decided D34). -/
def periodMax : Nat := 60

/-! ## Parameters the spec leaves OPEN (rule R6) -/

/-- `CLOCK_TOL`: seconds the device clock may run ahead and still verify (rules R6, R242). Log entry 8. -/
opaque clockTol : Nat

/-- The increments of `BACKOFF`: `BACKOFF(k)` is their sum up to k, so that it is non-decreasing (rule R6).
Log entry 8. -/
opaque backoffStep : Nat → Nat

/-- `COOLDOWN` (rules R6, R233). Log entry 8. -/
opaque cooldown : Nat

/-- `SETTLE` (rules R6, R234). Log entry 8. -/
opaque settle : Nat

/-! ## Free values -/

/-- The oracle's answer to a read (rule R53): the number of calls made so far, the handle, the command register and
the length asked; `none` is `IoError`. Log entry 2. -/
opaque oracleRead : Nat → Byte → Byte → Byte → Nat → Option Bytes

/-- The oracle's answer to a write (rule R53): true is `ok`, false is `IoError`. Log entry 2. -/
opaque oracleWrite : Nat → Byte → Byte → Byte → Bytes → Bool

/-- The frame the ideal device's clock holds after a tick that carries out of the seconds field, which rule R64 does
not give: the ticks, the old frame. Log entry 4. -/
opaque tickCarry : Nat → Bytes → Bytes

/-- Whether an operand group that is not of the layout is found before the layout's own groups are validated, which
the spec does not order (rules R143, R262 g). Log entry 7. -/
opaque unknownGroupFirst : Bool

/-- An 8-bit register that a reset leaves unspecified (rule R35): the model's counter, the register's number.
Log entry 5. -/
opaque resetByte : Nat → Nat → Byte

/-- The latch `nvr` after a reset (rule R35): the model's counter. Log entry 5. -/
opaque resetNvr : Nat → Bool

/-- The latch `argr` after a reset (rule R35): the model's counter. Log entry 5. -/
opaque resetArgr : Nat → Args

end Sys2Proof.Config
end

