-- ==== Sys2Proof/Machine/Tables.lean ====
section
/-! DEFINITION. The command table (rules R90 to R92), the action table (rules R102, R103), the lookups over them, and
the checks a table must pass. -/

namespace Sys2Proof.Machine

/-! ## DEFAULT_CMDTAB (rule R91) -/

/-- Row `STATUS` (rule R91). -/
def rowStatus : CmdRow :=
  { name := .status, group := .status, code := 0x40, chans := 1, rlen := some 1, wlen := none, nv := false,
    verify := none, layout := .lStatus, unk := .unknownData }

/-- Row `BATTERY_TEMPERATURE` (rule R91). -/
def rowBatteryTemperature : CmdRow :=
  { name := .batteryTemperature, group := .status, code := 0x47, chans := 1, rlen := some 1, wlen := none, nv := false,
    verify := none, layout := .lTemp, unk := .unknownData }

/-- Row `IO_CURRENT` (rule R91). -/
def rowIoCurrent : CmdRow :=
  { name := .ioCurrent, group := .status, code := 0x4F, chans := 1, rlen := some 2, wlen := none, nv := false,
    verify := none, layout := .lS16, unk := .unknownData }

/-- Row `CHARGING_CONFIG` (rule R91). -/
def rowChargingConfig : CmdRow :=
  { name := .chargingConfig, group := .config, code := 0x51, chans := 1, rlen := some 1, wlen := some 1, nv := true,
    verify := some (.vmask [0x81]), layout := .lCtrl, unk := .unknownConfig }

/-- Row `POWER_OFF` (rule R91). -/
def rowPowerOff : CmdRow :=
  { name := .powerOff, group := .power, code := 0x62, chans := 1, rlen := some 1, wlen := some 1, nv := false,
    verify := none, layout := .lU8, unk := .unknownData }

/-- Row `BUTTON_CONFIG` (rule R91): channels `SW1`, `SW2`, `SW3`. -/
def rowButtonConfig : CmdRow :=
  { name := .buttonConfig, group := .config, code := 0x6E, chans := 3, rlen := some 12, wlen := some 12, nv := false,
    verify := some (.vmask (List.replicate 12 0xFF)), layout := .lPairs, unk := .unknownConfig }

/-- Row `PWM_DUTY` (rule R91): channels `1`, `2`. -/
def rowPwmDuty : CmdRow :=
  { name := .pwmDuty, group := .config, code := 0x75, chans := 2, rlen := some 2, wlen := some 2, nv := false,
    verify := some (.vmask [0xFF, 0x03]), layout := .lDuty, unk := .unknownConfig }

/-- Row `RTC_TIME` (rule R91). -/
def rowRtcTime : CmdRow :=
  { name := .rtcTime, group := .rtcAlarm, code := 0xB0, chans := 1, rlen := some 7, wlen := some 7, nv := false,
    verify := some .timeFwd, layout := .lTime, unk := .unknownData }

/-- Row `RTC_ALARM` (rule R91). -/
def rowRtcAlarm : CmdRow :=
  { name := .rtcAlarm, group := .rtcAlarm, code := 0xB9, chans := 1, rlen := some 7, wlen := some 7, nv := false,
    verify := some (.vmask [0x3F, 0x3F, 0xFF, 0xFF, 0xFF, 0x7F, 0x07]), layout := .lAlarm, unk := .unknownData }

/-- `CMDTAB` = `DEFAULT_CMDTAB` (rules R6, R91). Log entry 9. -/
def cmdtab : List CmdRow :=
  [rowStatus, rowBatteryTemperature, rowIoCurrent, rowChargingConfig, rowPowerOff, rowButtonConfig, rowPwmDuty,
   rowRtcTime, rowRtcAlarm]

/-- `lookup(CMDTAB, cmd)`: the row whose base code is `cmd` (rules R140, R180, R222). -/
def lookup (tab : List CmdRow) (cmd : Byte) : Option CmdRow :=
  tab.find? (fun r => r.code == cmd)

/-- The row of the request in progress, found from its effective command code: the row in whose code range `cmdr`
lies (rules R29, R92, R221). -/
def rowOf (tab : List CmdRow) (cmdr : Byte) : Option CmdRow :=
  tab.find? (fun r => decide (r.code.toNat ≤ cmdr.toNat ∧ cmdr.toNat < r.code.toNat + r.chans))

/-- The effective command code `cmdr = code + ch` (rule R92). -/
def effCode (row : CmdRow) (ch : Nat) : Byte := row.code + BitVec.ofNat 8 ch

/-! ## DEFAULT_ACTION_TABLE (rule R103) -/

/-- The entries `USER_FUNC`k, codes 0x10 + k, k = 1 to 15 (rule R103). -/
def userFuncEntries : List ActionEntry :=
  (List.range 15).map (fun i => { code := BitVec.ofNat 8 (0x11 + i), name := .userFunc (i + 1), scale := 1 })

/-- `ACTION_TABLE` = `DEFAULT_ACTION_TABLE` (rules R6, R103). -/
def actionTable : List ActionEntry :=
  [{ code := 0x00, name := .noFunc, scale := 1 },
   { code := 0x01, name := .powerOn, scale := 10 },
   { code := 0x02, name := .powerOff, scale := 10 },
   { code := 0x03, name := .halt, scale := 100 },
   { code := 0x04, name := .reboot, scale := 100 }] ++ userFuncEntries

/-- `lookup(ACTION_TABLE, name)` (rule R148). -/
def actionByName (tab : List ActionEntry) (name : ActionName) : Option ActionEntry :=
  tab.find? (fun e => e.name == name)

/-- `lookup_by_code(ACTION_TABLE, code)` (rule R191). -/
def actionByCode (tab : List ActionEntry) (code : Nat) : Option ActionEntry :=
  tab.find? (fun e => e.code.toNat == code)

/-! ## The parameters -/

/-- The parameters at the values that rule R6 decides. Log entry 9. -/
def defaults : Params where
  frameMax := Config.frameMax
  defaultTries := Config.defaultTries
  yearMin := Config.yearMin
  yearMax := Config.yearMax
  yearBase := Config.yearBase
  periodMin := Config.periodMin
  periodMax := Config.periodMax
  cmdtab := cmdtab
  actions := actionTable

/-! ## Groups of a layout -/

/-- The groups of a layout, in the order of its table (rules R94 to R104, R143). -/
def layoutGroups : Layout → List Group
  | .lStatus => [.fault, .button, .battery, .primaryInput, .secondaryInput]
  | .lTemp => [.temperature]
  | .lS16 => [.value]
  | .lCtrl => [.enable]
  | .lU8 => [.delay]
  | .lDuty => [.duty]
  | .lTime => [.second, .minute, .hour, .weekday, .day, .month, .year]
  | .lAlarm => [.second, .minute, .hour, .day]
  | .lPairs => [.slot 0, .slot 1, .slot 2, .slot 3, .slot 4, .slot 5]
  | .fields fs => fs.map (·.group)

/-- The payload length in bytes of a layout: the bytes that hold its fields (rules R90, R94 to R104). -/
def layoutLen : Layout → Nat
  | .lStatus => 1 | .lTemp => 1 | .lS16 => 2 | .lCtrl => 1 | .lU8 => 1 | .lDuty => 2 | .lTime => 7 | .lAlarm => 7
  | .lPairs => 12
  | .fields fs => (fs.foldr (fun f n => max (f.pos + f.kind.width) n) 0 + 7) / 8

/-- The field of a group in a list of fields (rule R86). -/
def fieldOf (fs : List LayoutField) (g : Group) : Option LayoutField := fs.find? (fun f => f.group == g)

/-- The error a field kind names, else `BadArgument` (rules R86, R93). -/
def kindErr : FieldKind → ErrorKind
  | .uint _ _ _ e => e
  | .duty10 => .invalidDutyCycle
  | .mask _ e => e
  | .flag => .badArgument
  | .enum _ _ => .badArgument
  | .s8 => .badArgument
  | .s16 => .badArgument

/-- The error of a group that is missing, repeated or of the wrong type: the `Invalid*` kind its layout names, else
`BadArgument` (rules R93, R149, R150, decided D39). DEDUCED for a missing or repeated group for which `L_ALARM` names two
kinds: `minute` is `InvalidMinute` and `day` is `InvalidWeekday`, as rule R150 says of a wrong type (log entry 7). -/
def groupErr : Layout → Group → ErrorKind
  | .lDuty, .duty => .invalidDutyCycle
  | .lTime, .second => .invalidSecond
  | .lTime, .minute => .invalidMinute
  | .lTime, .hour => .invalidHour
  | .lTime, .weekday => .invalidWeekday
  | .lTime, .day => .invalidDay
  | .lTime, .month => .invalidMonth
  | .lTime, .year => .invalidYear
  | .lAlarm, .second => .invalidSecond
  | .lAlarm, .minute => .invalidMinute
  | .lAlarm, .hour => .invalidHour
  | .lAlarm, .day => .invalidWeekday
  | .fields fs, g => (fieldOf fs g).elim .badArgument (fun f => kindErr f.kind)
  | _, _ => .badArgument

end Sys2Proof.Machine
end

