-- ==== Sys2Proof/Syntax.lean ====
section
/-! DEFINITION. The request words that are served (rules R80, R81, R89): one constructor per row of the opcode table.
The operands of a request other than `imm8` and `nv` come on the operand ports, not in the word (rule R80). -/

namespace Sys2Proof

/-- One constructor per row of the opcode table (rule R89); the docstring names the row. -/
inductive Instr where
  /-- `CS.INIT` -/
  | csInit
  /-- `CS.ABSORB` -/
  | csAbsorb (imm : Byte)
  /-- `CS.COMPUTE` -/
  | csCompute
  /-- `CS.VERIFY` -/
  | csVerify
  /-- `CS.APPEND` -/
  | csAppend
  /-- `ENC_STATUS` -/
  | encStatus
  /-- `DEC_STATUS` -/
  | decStatus
  /-- `XFER.RD_STATUS` -/
  | xferRdStatus
  /-- `ENC_BATTERY_TEMPERATURE` -/
  | encBatteryTemperature
  /-- `DEC_BATTERY_TEMPERATURE` -/
  | decBatteryTemperature
  /-- `XFER.RD_BATTERY_TEMPERATURE` -/
  | xferRdBatteryTemperature
  /-- `ENC_IO_CURRENT` -/
  | encIoCurrent
  /-- `DEC_IO_CURRENT` -/
  | decIoCurrent
  /-- `XFER.RD_IO_CURRENT` -/
  | xferRdIoCurrent
  /-- `ENC_CHARGING_CONFIG` -/
  | encChargingConfig (nv : Bool)
  /-- `DEC_CHARGING_CONFIG` -/
  | decChargingConfig
  /-- `XFER.RD_CHARGING_CONFIG` -/
  | xferRdChargingConfig
  /-- `XFER.WR_CHARGING_CONFIG` -/
  | xferWrChargingConfig (nv : Bool)
  /-- `XFER.WRV_CHARGING_CONFIG` -/
  | xferWrvChargingConfig (nv : Bool)
  /-- `XFER.RMW_CHARGING_CONFIG` -/
  | xferRmwChargingConfig (nv : Bool)
  /-- `ENC_POWER_OFF` -/
  | encPowerOff
  /-- `DEC_POWER_OFF` -/
  | decPowerOff
  /-- `XFER.RD_POWER_OFF` -/
  | xferRdPowerOff
  /-- `XFER.WR_POWER_OFF` -/
  | xferWrPowerOff
  /-- `ENC_BUTTON_CONFIG.SW1` -/
  | encButtonConfigSw1
  /-- `DEC_BUTTON_CONFIG.SW1` -/
  | decButtonConfigSw1
  /-- `XFER.RD_BUTTON_CONFIG.SW1` -/
  | xferRdButtonConfigSw1
  /-- `XFER.WR_BUTTON_CONFIG.SW1` -/
  | xferWrButtonConfigSw1
  /-- `XFER.WRV_BUTTON_CONFIG.SW1` -/
  | xferWrvButtonConfigSw1
  /-- `XFER.RMW_BUTTON_CONFIG.SW1` -/
  | xferRmwButtonConfigSw1
  /-- `ENC_BUTTON_CONFIG.SW2` -/
  | encButtonConfigSw2
  /-- `DEC_BUTTON_CONFIG.SW2` -/
  | decButtonConfigSw2
  /-- `XFER.RD_BUTTON_CONFIG.SW2` -/
  | xferRdButtonConfigSw2
  /-- `XFER.WR_BUTTON_CONFIG.SW2` -/
  | xferWrButtonConfigSw2
  /-- `XFER.WRV_BUTTON_CONFIG.SW2` -/
  | xferWrvButtonConfigSw2
  /-- `XFER.RMW_BUTTON_CONFIG.SW2` -/
  | xferRmwButtonConfigSw2
  /-- `ENC_BUTTON_CONFIG.SW3` -/
  | encButtonConfigSw3
  /-- `DEC_BUTTON_CONFIG.SW3` -/
  | decButtonConfigSw3
  /-- `XFER.RD_BUTTON_CONFIG.SW3` -/
  | xferRdButtonConfigSw3
  /-- `XFER.WR_BUTTON_CONFIG.SW3` -/
  | xferWrButtonConfigSw3
  /-- `XFER.WRV_BUTTON_CONFIG.SW3` -/
  | xferWrvButtonConfigSw3
  /-- `XFER.RMW_BUTTON_CONFIG.SW3` -/
  | xferRmwButtonConfigSw3
  /-- `ENC_PWM_DUTY.1` -/
  | encPwmDuty1
  /-- `DEC_PWM_DUTY.1` -/
  | decPwmDuty1
  /-- `XFER.RD_PWM_DUTY.1` -/
  | xferRdPwmDuty1
  /-- `XFER.WR_PWM_DUTY.1` -/
  | xferWrPwmDuty1
  /-- `XFER.WRV_PWM_DUTY.1` -/
  | xferWrvPwmDuty1
  /-- `XFER.RMW_PWM_DUTY.1` -/
  | xferRmwPwmDuty1
  /-- `ENC_PWM_DUTY.2` -/
  | encPwmDuty2
  /-- `DEC_PWM_DUTY.2` -/
  | decPwmDuty2
  /-- `XFER.RD_PWM_DUTY.2` -/
  | xferRdPwmDuty2
  /-- `XFER.WR_PWM_DUTY.2` -/
  | xferWrPwmDuty2
  /-- `XFER.WRV_PWM_DUTY.2` -/
  | xferWrvPwmDuty2
  /-- `XFER.RMW_PWM_DUTY.2` -/
  | xferRmwPwmDuty2
  /-- `ENC_RTC_TIME` -/
  | encRtcTime
  /-- `DEC_RTC_TIME` -/
  | decRtcTime
  /-- `XFER.RD_RTC_TIME` -/
  | xferRdRtcTime
  /-- `XFER.WR_RTC_TIME` -/
  | xferWrRtcTime
  /-- `XFER.WRV_RTC_TIME` -/
  | xferWrvRtcTime
  /-- `XFER.RMW_RTC_TIME` -/
  | xferRmwRtcTime
  /-- `ENC_RTC_ALARM` -/
  | encRtcAlarm
  /-- `DEC_RTC_ALARM` -/
  | decRtcAlarm
  /-- `XFER.RD_RTC_ALARM` -/
  | xferRdRtcAlarm
  /-- `XFER.WR_RTC_ALARM` -/
  | xferWrRtcAlarm
  /-- `XFER.WRV_RTC_ALARM` -/
  | xferWrvRtcAlarm
  /-- `XFER.RMW_RTC_ALARM` -/
  | xferRmwRtcAlarm
  deriving DecidableEq, Repr

end Sys2Proof
end

