-- ==== Sys2Proof/Decode.lean ====
section
/-! DEFINITION. The request word's decoder and encoder (rules R80 to R83, R89). Every 16-bit word is decoded or rejected
by name; a rejected word is answered `BadArgument` (`Sys2Proof.Machine.refuseWord`). -/

namespace Sys2Proof

open Sys2Proof.Machine

/-! ## Fields of the request word (rule R80) -/

/-- `op` = `rq[15:12]` (rule R80). -/
def fieldOp (w : ReqWord) : Nat := (w.extractLsb' 12 4).toNat

/-- `nv` = `rq[11]` (rules R80, R82). -/
def fieldNv (w : ReqWord) : Bool := w.getLsbD 11

/-- `ch` = `rq[10:9]`, unsigned (rules R80, R82). -/
def fieldCh (w : ReqWord) : Nat := (w.extractLsb' 9 2).toNat

/-- `z` = `rq[8]`, reserved (rule R80). -/
def fieldZ (w : ReqWord) : Bool := w.getLsbD 8

/-- `cmd` = `imm8` = `rq[7:0]` (rules R80, R82). -/
def fieldCmd (w : ReqWord) : Byte := w.extractLsb' 0 8

/-! ## The decoder -/

/-- Why a request word is no instruction, the first reason in the order of rule R222. All are `BadArgument`. -/
inductive Reject where
  /-- `op` is 0x0 or 0xC to 0xF (rule R83). -/
  | reservedOp
  /-- `z` is 1 (rule R83). -/
  | reservedBit
  /-- A must-be-zero field of a `CS` request is not zero (rule R83). -/
  | mustBeZero
  /-- `cmd` is in no row of the table (rules R140, R180, R222 b). -/
  | unknownCommand
  /-- `ch` is not less than the row's channels (rules R92, R222 c). -/
  | badChannel
  /-- The row does not have this direction or comparator (rules R180, R222 d). -/
  | wrongDirection
  /-- `nv` is 1 and the row or the operation does not take it (rules R88, R180, R222 d, e). -/
  | nvUnsupported
  deriving DecidableEq, Repr

/-- The operations that name a command (rule R81). -/
inductive CmdOp where
  | enc | dec | rd | wr | wrv | rmw
  deriving DecidableEq, Repr

/-- Whether a row serves an operation: check d of rule R222 and step 3 of rule R180. The `ENC` words of the read-only
commands have rows of their own (rules R89, R151), so `ENC` is never rejected here. -/
def serves (row : CmdRow) : CmdOp → Bool
  | .enc => true
  | .dec => row.rlen.isSome
  | .rd => row.rlen.isSome
  | .wr => row.wlen.isSome
  | .wrv => row.wlen.isSome && row.verify.isSome
  | .rmw => row.wlen.isSome && row.rlen == row.wlen && row.verify.isSome

/-- Whether the operation takes the `nv` flag for the row (rules R88, R180 step 3, R222 d and e). -/
def takesNv (row : CmdRow) : CmdOp → Bool
  | .dec => false
  | .rd => false
  | _ => row.nv

/-- The instruction of an operation, a command, a channel and the flag `nv` (rules R81, R89). -/
def cmdInstr : CmdOp → CmdName → Nat → Bool → Option Instr
  | .enc, .status, 0, _ => some .encStatus
  | .dec, .status, 0, _ => some .decStatus
  | .rd, .status, 0, _ => some .xferRdStatus
  | .enc, .batteryTemperature, 0, _ => some .encBatteryTemperature
  | .dec, .batteryTemperature, 0, _ => some .decBatteryTemperature
  | .rd, .batteryTemperature, 0, _ => some .xferRdBatteryTemperature
  | .enc, .ioCurrent, 0, _ => some .encIoCurrent
  | .dec, .ioCurrent, 0, _ => some .decIoCurrent
  | .rd, .ioCurrent, 0, _ => some .xferRdIoCurrent
  | .enc, .chargingConfig, 0, nv => some (.encChargingConfig nv)
  | .dec, .chargingConfig, 0, _ => some .decChargingConfig
  | .rd, .chargingConfig, 0, _ => some .xferRdChargingConfig
  | .wr, .chargingConfig, 0, nv => some (.xferWrChargingConfig nv)
  | .wrv, .chargingConfig, 0, nv => some (.xferWrvChargingConfig nv)
  | .rmw, .chargingConfig, 0, nv => some (.xferRmwChargingConfig nv)
  | .enc, .powerOff, 0, _ => some .encPowerOff
  | .dec, .powerOff, 0, _ => some .decPowerOff
  | .rd, .powerOff, 0, _ => some .xferRdPowerOff
  | .wr, .powerOff, 0, _ => some .xferWrPowerOff
  | .enc, .buttonConfig, 0, _ => some .encButtonConfigSw1
  | .dec, .buttonConfig, 0, _ => some .decButtonConfigSw1
  | .rd, .buttonConfig, 0, _ => some .xferRdButtonConfigSw1
  | .wr, .buttonConfig, 0, _ => some .xferWrButtonConfigSw1
  | .wrv, .buttonConfig, 0, _ => some .xferWrvButtonConfigSw1
  | .rmw, .buttonConfig, 0, _ => some .xferRmwButtonConfigSw1
  | .enc, .buttonConfig, 1, _ => some .encButtonConfigSw2
  | .dec, .buttonConfig, 1, _ => some .decButtonConfigSw2
  | .rd, .buttonConfig, 1, _ => some .xferRdButtonConfigSw2
  | .wr, .buttonConfig, 1, _ => some .xferWrButtonConfigSw2
  | .wrv, .buttonConfig, 1, _ => some .xferWrvButtonConfigSw2
  | .rmw, .buttonConfig, 1, _ => some .xferRmwButtonConfigSw2
  | .enc, .buttonConfig, 2, _ => some .encButtonConfigSw3
  | .dec, .buttonConfig, 2, _ => some .decButtonConfigSw3
  | .rd, .buttonConfig, 2, _ => some .xferRdButtonConfigSw3
  | .wr, .buttonConfig, 2, _ => some .xferWrButtonConfigSw3
  | .wrv, .buttonConfig, 2, _ => some .xferWrvButtonConfigSw3
  | .rmw, .buttonConfig, 2, _ => some .xferRmwButtonConfigSw3
  | .enc, .pwmDuty, 0, _ => some .encPwmDuty1
  | .dec, .pwmDuty, 0, _ => some .decPwmDuty1
  | .rd, .pwmDuty, 0, _ => some .xferRdPwmDuty1
  | .wr, .pwmDuty, 0, _ => some .xferWrPwmDuty1
  | .wrv, .pwmDuty, 0, _ => some .xferWrvPwmDuty1
  | .rmw, .pwmDuty, 0, _ => some .xferRmwPwmDuty1
  | .enc, .pwmDuty, 1, _ => some .encPwmDuty2
  | .dec, .pwmDuty, 1, _ => some .decPwmDuty2
  | .rd, .pwmDuty, 1, _ => some .xferRdPwmDuty2
  | .wr, .pwmDuty, 1, _ => some .xferWrPwmDuty2
  | .wrv, .pwmDuty, 1, _ => some .xferWrvPwmDuty2
  | .rmw, .pwmDuty, 1, _ => some .xferRmwPwmDuty2
  | .enc, .rtcTime, 0, _ => some .encRtcTime
  | .dec, .rtcTime, 0, _ => some .decRtcTime
  | .rd, .rtcTime, 0, _ => some .xferRdRtcTime
  | .wr, .rtcTime, 0, _ => some .xferWrRtcTime
  | .wrv, .rtcTime, 0, _ => some .xferWrvRtcTime
  | .rmw, .rtcTime, 0, _ => some .xferRmwRtcTime
  | .enc, .rtcAlarm, 0, _ => some .encRtcAlarm
  | .dec, .rtcAlarm, 0, _ => some .decRtcAlarm
  | .rd, .rtcAlarm, 0, _ => some .xferRdRtcAlarm
  | .wr, .rtcAlarm, 0, _ => some .xferWrRtcAlarm
  | .wrv, .rtcAlarm, 0, _ => some .xferWrvRtcAlarm
  | .rmw, .rtcAlarm, 0, _ => some .xferRmwRtcAlarm
  | _, _, _, _ => none

/-- A word whose operation names a command (rules R81, R83, R222). -/
def decodeCmd (op : CmdOp) (w : ReqWord) : Except Reject Instr :=
  if fieldZ w then .error .reservedBit
  else
    match lookup cmdtab (fieldCmd w) with
    | none => .error .unknownCommand
    | some row =>
      if row.chans ≤ fieldCh w then .error .badChannel
      else if serves row op = false then .error .wrongDirection
      else if fieldNv w && !takesNv row op then .error .nvUnsupported
      else
        match cmdInstr op row.name (fieldCh w) (fieldNv w) with
        | some i => .ok i
        | none => .error .unknownCommand

/-- A `CS` request without an immediate: `rq[11:0]` must be 0 (rule R83). -/
def decodeCs (i : Instr) (w : ReqWord) : Except Reject Instr :=
  if w.extractLsb' 0 12 = 0 then .ok i else .error .mustBeZero

/-- The decoder: total on every 16-bit word (rules R81, R83, R89). -/
def decode (w : ReqWord) : Except Reject Instr :=
  match fieldOp w with
  | 1 => decodeCs .csInit w
  | 2 => if w.extractLsb' 8 4 = 0 then .ok (.csAbsorb (fieldCmd w)) else .error .mustBeZero
  | 3 => decodeCs .csCompute w
  | 4 => decodeCs .csVerify w
  | 5 => decodeCs .csAppend w
  | 6 => decodeCmd .enc w
  | 7 => decodeCmd .dec w
  | 8 => decodeCmd .rd w
  | 9 => decodeCmd .wr w
  | 10 => decodeCmd .wrv w
  | 11 => decodeCmd .rmw w
  | _ => .error .reservedOp

/-! ## The encoder -/

/-- A request word from its fields (rule R80). -/
def mkWord (op : Nat) (nv : Bool) (ch : Nat) (cmd : Byte) : ReqWord :=
  BitVec.ofNat 16 (op * 2 ^ 12 + nv.toNat * 2 ^ 11 + ch * 2 ^ 9 + cmd.toNat)

/-- The request word of an instruction (rules R81, R120 to R125, R140, R180, R223 to R226). -/
def encode : Instr → ReqWord
  | .csInit => mkWord 1 false 0 0
  | .csAbsorb imm => mkWord 2 false 0 imm
  | .csCompute => mkWord 3 false 0 0
  | .csVerify => mkWord 4 false 0 0
  | .csAppend => mkWord 5 false 0 0
  | .encStatus => mkWord 6 false 0 0x40
  | .decStatus => mkWord 7 false 0 0x40
  | .xferRdStatus => mkWord 8 false 0 0x40
  | .encBatteryTemperature => mkWord 6 false 0 0x47
  | .decBatteryTemperature => mkWord 7 false 0 0x47
  | .xferRdBatteryTemperature => mkWord 8 false 0 0x47
  | .encIoCurrent => mkWord 6 false 0 0x4F
  | .decIoCurrent => mkWord 7 false 0 0x4F
  | .xferRdIoCurrent => mkWord 8 false 0 0x4F
  | .encChargingConfig nv => mkWord 6 nv 0 0x51
  | .decChargingConfig => mkWord 7 false 0 0x51
  | .xferRdChargingConfig => mkWord 8 false 0 0x51
  | .xferWrChargingConfig nv => mkWord 9 nv 0 0x51
  | .xferWrvChargingConfig nv => mkWord 10 nv 0 0x51
  | .xferRmwChargingConfig nv => mkWord 11 nv 0 0x51
  | .encPowerOff => mkWord 6 false 0 0x62
  | .decPowerOff => mkWord 7 false 0 0x62
  | .xferRdPowerOff => mkWord 8 false 0 0x62
  | .xferWrPowerOff => mkWord 9 false 0 0x62
  | .encButtonConfigSw1 => mkWord 6 false 0 0x6E
  | .decButtonConfigSw1 => mkWord 7 false 0 0x6E
  | .xferRdButtonConfigSw1 => mkWord 8 false 0 0x6E
  | .xferWrButtonConfigSw1 => mkWord 9 false 0 0x6E
  | .xferWrvButtonConfigSw1 => mkWord 10 false 0 0x6E
  | .xferRmwButtonConfigSw1 => mkWord 11 false 0 0x6E
  | .encButtonConfigSw2 => mkWord 6 false 1 0x6E
  | .decButtonConfigSw2 => mkWord 7 false 1 0x6E
  | .xferRdButtonConfigSw2 => mkWord 8 false 1 0x6E
  | .xferWrButtonConfigSw2 => mkWord 9 false 1 0x6E
  | .xferWrvButtonConfigSw2 => mkWord 10 false 1 0x6E
  | .xferRmwButtonConfigSw2 => mkWord 11 false 1 0x6E
  | .encButtonConfigSw3 => mkWord 6 false 2 0x6E
  | .decButtonConfigSw3 => mkWord 7 false 2 0x6E
  | .xferRdButtonConfigSw3 => mkWord 8 false 2 0x6E
  | .xferWrButtonConfigSw3 => mkWord 9 false 2 0x6E
  | .xferWrvButtonConfigSw3 => mkWord 10 false 2 0x6E
  | .xferRmwButtonConfigSw3 => mkWord 11 false 2 0x6E
  | .encPwmDuty1 => mkWord 6 false 0 0x75
  | .decPwmDuty1 => mkWord 7 false 0 0x75
  | .xferRdPwmDuty1 => mkWord 8 false 0 0x75
  | .xferWrPwmDuty1 => mkWord 9 false 0 0x75
  | .xferWrvPwmDuty1 => mkWord 10 false 0 0x75
  | .xferRmwPwmDuty1 => mkWord 11 false 0 0x75
  | .encPwmDuty2 => mkWord 6 false 1 0x75
  | .decPwmDuty2 => mkWord 7 false 1 0x75
  | .xferRdPwmDuty2 => mkWord 8 false 1 0x75
  | .xferWrPwmDuty2 => mkWord 9 false 1 0x75
  | .xferWrvPwmDuty2 => mkWord 10 false 1 0x75
  | .xferRmwPwmDuty2 => mkWord 11 false 1 0x75
  | .encRtcTime => mkWord 6 false 0 0xB0
  | .decRtcTime => mkWord 7 false 0 0xB0
  | .xferRdRtcTime => mkWord 8 false 0 0xB0
  | .xferWrRtcTime => mkWord 9 false 0 0xB0
  | .xferWrvRtcTime => mkWord 10 false 0 0xB0
  | .xferRmwRtcTime => mkWord 11 false 0 0xB0
  | .encRtcAlarm => mkWord 6 false 0 0xB9
  | .decRtcAlarm => mkWord 7 false 0 0xB9
  | .xferRdRtcAlarm => mkWord 8 false 0 0xB9
  | .xferWrRtcAlarm => mkWord 9 false 0 0xB9
  | .xferWrvRtcAlarm => mkWord 10 false 0 0xB9
  | .xferRmwRtcAlarm => mkWord 11 false 0 0xB9

/-- The instruction in the low `nbits` bits of `w`, as the opcode table numbers them: a request word is one 16-bit
word, its bit 0 the least significant (rules R7, R80). -/
def decodeTableWord (nbits w : Nat) : Option Instr :=
  match decode (BitVec.ofNat 16 (w % 2 ^ nbits)) with
  | .ok i => some i
  | .error _ => none

end Sys2Proof
end

