-- ==== Sys2Proof/Machine/Bits.lean ====
section
/-! DEFINITION. The checksum and the bit-field primitives (rules R8, R9, R10), and the numeric helpers of the
layouts. -/

namespace Sys2Proof.Machine

/-! ## The checksum (rules R10, R123 to R125) -/

/-- `cksum(p)`: `0xFF` xored with every byte of p (rules R10, R123). -/
def cksum (p : Bytes) : Byte := p.foldl (fun a b => a ^^^ b) 0xFF

/-- `verify(f)`: the trailing byte equals the checksum of the bytes before it; the empty sequence is no frame
(rules R10, R124). -/
def verifyFrame (f : Bytes) : Bool :=
  match f.getLast? with
  | none => false
  | some c => cksum f.dropLast == c

/-- `append(p)` = `p ++ [cksum(p)]` (rules R10, R125). -/
def appendCk (p : Bytes) : Bytes := p ++ [cksum p]

/-! ## Payload bits (rule R9) -/

/-- Payload bit `b`: bit `b mod 8` of byte `p[b div 8]` (rule R9). -/
def payloadBit (p : Bytes) (b : Nat) : Bool := (p.getD (b / 8) 0).getLsbD (b % 8)

/-- Byte `x` with bit `k` set to `v`. -/
def setByteBit (x : Byte) (k : Nat) (v : Bool) : Byte :=
  if v then x ||| BitVec.twoPow 8 k else x &&& ~~~ BitVec.twoPow 8 k

/-- Payload `p` with payload bit `b` set to `v`. -/
def setPayloadBit (p : Bytes) (b : Nat) (v : Bool) : Bytes :=
  p.set (b / 8) (setByteBit (p.getD (b / 8) 0) (b % 8) v)

/-- `ext(p, pos, w)`: the value of the field (pos, w) (rule R9). -/
def extBits (p : Bytes) (pos : Nat) : Nat → Nat
  | 0 => 0
  | w + 1 => extBits p pos w + (payloadBit p (pos + w)).toNat * 2 ^ w

/-- `ins(p, pos, w, v)`: the payload with the field (pos, w) replaced by v, every other bit kept (rule R9). -/
def insBits (p : Bytes) (pos : Nat) : Nat → Nat → Bytes
  | 0, _ => p
  | w + 1, v => setPayloadBit (insBits p pos w v) (pos + w) (v.testBit w)

/-- `ins` of one field record (rule R142). -/
def insField (p : Bytes) (f : Field) : Bytes := insBits p f.pos f.w f.v

/-- A payload of `len` zero bytes: `zeros(len)` (rule R140). -/
def zeros (len : Nat) : Bytes := List.replicate len 0

/-- `pay(buf, len)` = `buf[0 .. len-1]`: a frame's payload without the checksum (rule R221). -/
def pay (buf : Bytes) (len : Nat) : Bytes := buf.take len

/-! ## Numbers -/

/-- `sext_N(v)`: the N-bit value v read as two's complement (rule R8). -/
def sext (n v : Nat) : Int := if v.testBit (n - 1) then (v : Int) - 2 ^ n else v

/-- The set positions of the low `nbits` bits of a mask, lowest first (rule R106). -/
def maskPositions (nbits m : Nat) : List Nat := (List.range nbits).filter (fun i => m.testBit i)

/-- The mask of a selection over `nbits` positions (rule R106). -/
def selectionMask (nbits : Nat) : Selection → Nat
  | .one i => 2 ^ i
  | .pair i j => 2 ^ i ||| 2 ^ j
  | .all => 2 ^ nbits - 1

/-- The selection a mask holds, by its population count: all, one, or two positions (lower first); any other count is
not recognised (rule R106). -/
def unpackMask (nbits m : Nat) : Option Selection :=
  if (maskPositions nbits m).length = nbits then some .all
  else
    match maskPositions nbits m with
    | [i] => some (.one i)
    | [i, j] => some (.pair i j)
    | _ => none

/-- Percent to the raw 10-bit duty, rounded to nearest (rules R99, R147). -/
def dutyRaw (d : Nat) : Nat := (d * 2046 + 100) / 200

/-- Raw 10-bit duty to tenths of a percent, rounded to nearest (rules R99, R190). -/
def dutyTenths (raw : Nat) : Nat := (raw * 2000 + 1023) / 2046

end Sys2Proof.Machine
end

