-- ==== Sys2Proof/Machine/Operands.lean ====
section
/-! DEFINITION. Every operand form: the conversion of a typed operand into payload fields with its range check (the
encode half of rules R86 and R99 to R106), the packer (rules R142, R143), and the unpacker (rules R182, R185 to R193). -/

namespace Sys2Proof.Machine

/-! ## Field kinds, pack side (rule R86) -/

/-- Kind `flag` (rule R86). -/
def flagField (pos : Nat) (e : ErrorKind) : Operand → Except ErrorKind (List Field)
  | .bool b => .ok [⟨pos, 1, b.toNat⟩]
  | _ => .error e

/-- Kind `uint(lo, hi, E)`, stored as v − base (rules R86, R141). -/
def uintField (pos w : Nat) (lo hi base : Int) (e : ErrorKind) : Operand → Except ErrorKind (List Field)
  | .int v => if lo ≤ v ∧ v ≤ hi then .ok [⟨pos, w, (v - base).toNat⟩] else .error e
  | _ => .error e

/-- Kinds `s8` and `s16`: two's complement of n bits, field = v mod 2^n (rules R86, R141). -/
def signedField (pos n : Nat) : Operand → Except ErrorKind (List Field)
  | .int v => if -(2 ^ (n - 1)) ≤ v ∧ v < 2 ^ (n - 1) then .ok [⟨pos, n, (v % 2 ^ n).toNat⟩] else .error .badArgument
  | _ => .error .badArgument

/-- The index of a battery state (rule R105). -/
def batteryIndex : BatteryState → Nat
  | .normal => 0 | .bat1 => 1 | .bat2 => 2 | .bat3 => 3

/-- The index of an input state (rule R105). -/
def inputIndex : InputState → Nat
  | .notPresent => 0 | .in1 => 1 | .in2 => 2 | .present => 3

/-- Kind `enum(4, BatteryState)` (rules R86, R94). -/
def batteryField (pos : Nat) : Operand → Except ErrorKind (List Field)
  | .battery b => .ok [⟨pos, 2, batteryIndex b⟩]
  | _ => .error .badArgument

/-- Kind `enum(4, InputState)` (rules R86, R94). -/
def inputField (pos : Nat) : Operand → Except ErrorKind (List Field)
  | .input i => .ok [⟨pos, 2, inputIndex i⟩]
  | _ => .error .badArgument

/-- Kind `duty10`: an integer percent 0 to 100 (rules R99, R147). -/
def dutyField (pos : Nat) : Operand → Except ErrorKind (List Field)
  | .int d => if 0 ≤ d ∧ d ≤ 100 then .ok [⟨pos, 10, dutyRaw d.toNat⟩] else .error .invalidDutyCycle
  | _ => .error .invalidDutyCycle

/-- Kind `enum(card, names)`: the index of the name (rule R86). -/
def enumField (pos w : Nat) (names : List Operand) (o : Operand) : Except ErrorKind (List Field) :=
  match names.findIdx? (· == o) with
  | some i => .ok [⟨pos, w, i⟩]
  | none => .error .badArgument

/-- Kind `mask(nbits, E)`: a selection; a position out of range or a pair of one position is refused (rules R86, R106). -/
def maskField (pos nbits : Nat) (e : ErrorKind) : Operand → Except ErrorKind (List Field)
  | .one i => if 0 ≤ i ∧ i < nbits then .ok [⟨pos, nbits, selectionMask nbits (.one i.toNat)⟩] else .error e
  | .pair i j =>
    if 0 ≤ i ∧ i < nbits ∧ 0 ≤ j ∧ j < nbits ∧ i ≠ j then
      .ok [⟨pos, nbits, selectionMask nbits (.pair i.toNat j.toNat)⟩]
    else .error e
  | .all => .ok [⟨pos, nbits, selectionMask nbits .all⟩]
  | _ => .error e

/-- The pack side of a field kind at a position (rule R86). -/
def kindField (pos : Nat) : FieldKind → Operand → Except ErrorKind (List Field)
  | .flag => flagField pos .badArgument
  | .uint w lo hi e => uintField pos w lo hi 0 e
  | .enum w names => enumField pos w names
  | .s8 => signedField pos 8
  | .s16 => signedField pos 16
  | .duty10 => dutyField pos
  | .mask nbits e => maskField pos nbits e

/-- A group of a layout given as a list of fields (rules R86, R142). -/
def listedField (fs : List LayoutField) (g : Group) (o : Operand) : Except ErrorKind (List Field) :=
  match fieldOf fs g with
  | some f => kindField f.pos f.kind o
  | none => .error .badArgument

/-- The three fields of the time frame's hour byte: hour number, PM flag, 12-hour flag (rule R100). -/
def timeHourFields (h pm m12 : Nat) : List Field := [⟨16, 5, h⟩, ⟨21, 1, pm⟩, ⟨22, 1, m12⟩]

/-- The group `hour` of `L_TIME` (rules R100, R149). -/
def timeHourField : Operand → Except ErrorKind (List Field)
  | .h24 h => if 0 ≤ h ∧ h ≤ 23 then .ok (timeHourFields h.toNat 0 0) else .error .invalidHour
  | .am h => if 1 ≤ h ∧ h ≤ 12 then .ok (timeHourFields h.toNat 0 1) else .error .invalidHour
  | .pm h => if 1 ≤ h ∧ h ≤ 12 then .ok (timeHourFields h.toNat 1 1) else .error .invalidHour
  | _ => .error .invalidHour

/-- The group `minute` of `L_ALARM`: byte 1 and PERIODIC (rules R101, R150). -/
def alarmMinuteField (P : Params) : Operand → Except ErrorKind (List Field)
  | .minuteOf m => if 0 ≤ m ∧ m ≤ 59 then .ok [⟨8, 6, m.toNat⟩, ⟨49, 1, 0⟩] else .error .invalidMinute
  | .period n =>
    if (P.periodMin : Int) < n ∧ n ≤ P.periodMax then .ok [⟨8, 6, n.toNat⟩, ⟨49, 1, 1⟩]
    else .error .invalidPeriod
  | _ => .error .invalidMinute

/-- The selection and the HOUR12 flag of an `HourSpec`; `none` is `InvalidHour` (rules R106, R150). -/
def hourSpec : Operand → Option (Selection × Nat)
  | .hourOf h => if 0 ≤ h ∧ h ≤ 23 then some (.one h.toNat, 0) else none
  | .hourAm h => if 1 ≤ h ∧ h ≤ 12 then some (.one (h.toNat % 12), 1) else none
  | .hourPm h => if 1 ≤ h ∧ h ≤ 12 then some (.one (h.toNat % 12 + 12), 1) else none
  | .hourPair a b =>
    if 0 ≤ a ∧ a ≤ 23 ∧ 0 ≤ b ∧ b ≤ 23 ∧ a ≠ b then some (.pair a.toNat b.toNat, 0) else none
  | .everyHour => some (.all, 0)
  | _ => none

/-- The group `hour` of `L_ALARM`: the 24-bit mask and HOUR12 (rules R101, R106). -/
def alarmHourField (o : Operand) : Except ErrorKind (List Field) :=
  match hourSpec o with
  | some (sel, h12) => .ok [⟨16, 24, selectionMask 24 sel⟩, ⟨50, 1, h12⟩]
  | none => .error .invalidHour

/-- The group `day` of `L_ALARM`: bits 6:0 of byte 5 and DOM (rules R101, R106, R150). -/
def alarmDayField : Operand → Except ErrorKind (List Field)
  | .dayOfMonth d => if 1 ≤ d ∧ d ≤ 31 then .ok [⟨40, 7, d.toNat⟩, ⟨48, 1, 1⟩] else .error .invalidDay
  | .weekdayOf d =>
    if 1 ≤ d ∧ d ≤ 7 then .ok [⟨40, 7, selectionMask 7 (.one (d.toNat - 1))⟩, ⟨48, 1, 0⟩] else .error .invalidWeekday
  | .weekdayPair a b =>
    if 1 ≤ a ∧ a ≤ 7 ∧ 1 ≤ b ∧ b ≤ 7 ∧ a ≠ b then
      .ok [⟨40, 7, selectionMask 7 (.pair (a.toNat - 1) (b.toNat - 1))⟩, ⟨48, 1, 0⟩]
    else .error .invalidWeekday
  | .everyDay => .ok [⟨40, 7, selectionMask 7 .all⟩, ⟨48, 1, 0⟩]
  | _ => .error .invalidWeekday

/-- A slot of `L_PAIRS`: the action code and the parameter divided by the action's scale, exactly (rules R104,
R148). -/
def slotField (P : Params) (i : Nat) : Operand → Except ErrorKind (List Field)
  | .action name param =>
    match actionByName P.actions name with
    | none => .error .badArgument
    | some e =>
      if 0 ≤ param ∧ param % e.scale = 0 ∧ param / e.scale ≤ 255 then
        .ok [⟨16 * i, 8, e.code.toNat⟩, ⟨16 * i + 8, 8, (param / e.scale).toNat⟩]
      else .error .badArgument
  | _ => .error .badArgument

/-- `validate_and_convert(g, operand)`: the payload fields of one operand, or the group's error (rules R142, R145 to
R150; the read-only layouts by the kinds of rule R86). -/
def convert (P : Params) : Layout → Group → Operand → Except ErrorKind (List Field)
  | .lStatus, .fault => flagField 0 .badArgument
  | .lStatus, .button => flagField 1 .badArgument
  | .lStatus, .battery => batteryField 2
  | .lStatus, .primaryInput => inputField 4
  | .lStatus, .secondaryInput => inputField 6
  | .lTemp, .temperature => signedField 0 8
  | .lS16, .value => signedField 0 16
  | .lCtrl, .enable => flagField 0 .badArgument
  | .lU8, .delay => uintField 0 8 0 255 0 .badArgument
  | .lDuty, .duty => dutyField 0
  | .lTime, .second => uintField 0 6 0 59 0 .invalidSecond
  | .lTime, .minute => uintField 8 6 0 59 0 .invalidMinute
  | .lTime, .hour => timeHourField
  | .lTime, .weekday => uintField 24 3 1 7 0 .invalidWeekday
  | .lTime, .day => uintField 32 5 1 31 0 .invalidDay
  | .lTime, .month => uintField 40 4 1 12 0 .invalidMonth
  | .lTime, .year => uintField 48 7 P.yearMin P.yearMax P.yearBase .invalidYear
  | .lAlarm, .second => uintField 0 6 0 59 0 .invalidSecond
  | .lAlarm, .minute => alarmMinuteField P
  | .lAlarm, .hour => alarmHourField
  | .lAlarm, .day => alarmDayField
  | .lPairs, .slot i => slotField P i
  | .fields fs, g => listedField fs g
  | _, _ => fun _ => .error .badArgument

/-! ## The packer (rules R142, R143) -/

/-- The fields of every named group among `gs`, in that order: the first group that fails decides the error, a repeated
one, and with `all` a missing one, with its group's error (rules R143, R222, R270, decided D21, D39). The pseudocode of rule
R142 puts the missing groups first; the decision D21 is followed. Log entry 7. -/
def convertGroups (P : Params) (l : Layout) (args : Args) (all : Bool) : List Group → Except ErrorKind (List Field)
  | [] => .ok []
  | g :: gs =>
    match args.filter (fun e => e.1 == g) with
    | [] => if all then .error (groupErr l g) else convertGroups P l args all gs
    | [(_, o)] =>
      match convert P l g o with
      | .error k => .error k
      | .ok fs =>
        match convertGroups P l args all gs with
        | .error k => .error k
        | .ok rest => .ok (fs ++ rest)
    | _ => .error (groupErr l g)

/-- Whether `args` names the group. -/
def namesGroup (args : Args) (g : Group) : Bool := args.any (fun e => e.1 == g)

/-- The absent trailing slots of `L_PAIRS` are (`NO_FUNC`, 0): every slot after the last one named is added (rules
R104, R148). Other layouts have no such default. -/
def fillSlots (l : Layout) (args : Args) : Args :=
  match l with
  | .lPairs =>
    args ++ ((((layoutGroups .lPairs).reverse.takeWhile (fun g => !namesGroup args g)).reverse).map
      (fun g => (g, Operand.action .noFunc 0)))
  | _ => args

/-- Whether `args` names a group that is not of the layout (rule R262 g). -/
def hasUnknown (l : Layout) (args : Args) : Bool := args.any (fun e => !(layoutGroups l).contains e.1)

/-- All of a request's operand checks and conversions, in order (rules R93, R142, R143, R262 g). An unknown group is
`BadArgument`; whether it is found before the layout's own groups is free. Log entry 7. -/
def collect (P : Params) (l : Layout) (args : Args) (all : Bool) : Except ErrorKind (List Field) :=
  if hasUnknown l args then
    if Config.unknownGroupFirst then .error .badArgument
    else
      match convertGroups P l (if all then fillSlots l args else args) all (layoutGroups l) with
      | .error k => .error k
      | .ok _ => .error .badArgument
  else convertGroups P l (if all then fillSlots l args else args) all (layoutGroups l)

/-- `pack(layout, base, updates, required)`: the base payload with the fields of the named groups inserted; nothing is
inserted if any check fails (rule R142). -/
def pack (P : Params) (l : Layout) (base : Bytes) (args : Args) (all : Bool) : Except ErrorKind Bytes :=
  match collect P l args all with
  | .error k => .error k
  | .ok fs => .ok (fs.foldl insField base)

/-- Bit 7 of payload byte 0 set from the `nv` flag, for a row with `nv` = yes (rule R88). -/
def insNv (row : CmdRow) (nv : Bool) (p : Bytes) : Bytes :=
  if row.nv then insBits p 7 1 nv.toNat else p

/-- Steps 5 to 7 of rule R140: the frame of a full set of operands. -/
def encFrame (P : Params) (row : CmdRow) (wlen : Nat) (nv : Bool) (args : Args) : Except ErrorKind Bytes :=
  match pack P row.layout (zeros wlen) args true with
  | .error k => .error k
  | .ok p => .ok (appendCk (insNv row nv p))

/-- The merged frame of `XFER.RMW`: the named groups over the payload just read, then `nv`, then the checksum (rules
R226, R237). -/
def mergeFrame (P : Params) (row : CmdRow) (base : Bytes) (nv : Bool) (args : Args) : Except ErrorKind Bytes :=
  match pack P row.layout base args false with
  | .error k => .error k
  | .ok p => .ok (appendCk (insNv row nv p))

/-! ## The unpacker (rules R182 to R193) -/

/-- The member of a 2-bit index (rule R105). -/
def batteryOf : Nat → BatteryState
  | 0 => .normal | 1 => .bat1 | 2 => .bat2 | _ => .bat3

/-- The member of a 2-bit index (rule R105). -/
def inputOf : Nat → InputState
  | 0 => .notPresent | 1 => .in1 | 2 => .in2 | _ => .present

/-- The hour of the time frame from the hour number, the PM flag and the 12-hour flag; `none` is `unk` (rules R100,
R192). -/
def unpackTimeHour (hn : Nat) (pm m12 : Bool) : Option HourT :=
  if m12 then
    if 1 ≤ hn ∧ hn ≤ 12 then some (if pm then .pm hn else .am hn) else none
  else if hn ≤ 23 ∧ pm = false then some (.h24 hn) else none

/-- The unpacked `L_TIME` payload; `none` is `unk` (rules R100, R192). -/
def unpackTime (P : Params) (p : Bytes) : Option TimeVal :=
  match unpackTimeHour (extBits p 16 5) (payloadBit p 21) (payloadBit p 22) with
  | none => none
  | some hour =>
    let second := extBits p 0 6
    let minute := extBits p 8 6
    let weekday := extBits p 24 3
    let day := extBits p 32 5
    let month := extBits p 40 4
    let year := extBits p 48 7 + P.yearBase
    if second ≤ 59 ∧ minute ≤ 59 ∧ 1 ≤ weekday ∧ weekday ≤ 7 ∧ 1 ≤ day ∧ day ≤ 31 ∧ 1 ≤ month ∧ month ≤ 12 ∧
        P.yearMin ≤ year ∧ year ≤ P.yearMax then
      some { second, minute, hour, weekday, day, month, year }
    else none

/-- The operand form of a time hour (rule R100). -/
def hourOperand : HourT → Operand
  | .h24 h => .h24 h
  | .am h => .am h
  | .pm h => .pm h

/-- The record of an unpacked time (rule R192). -/
def timeRecord (t : TimeVal) : Args :=
  [(.second, .int t.second), (.minute, .int t.minute), (.hour, hourOperand t.hour), (.weekday, .int t.weekday),
   (.day, .int t.day), (.month, .int t.month), (.year, .int t.year)]

/-- The `minute` group of `L_ALARM` (rules R101, R193). -/
def unpackAlarmMinute (P : Params) (b1 : Nat) (periodic : Bool) : Option Operand :=
  if periodic then
    if P.periodMin < b1 ∧ b1 ≤ P.periodMax then some (.period b1) else none
  else if b1 ≤ 59 then some (.minuteOf b1) else none

/-- A single hour shown in AM/PM form (rules R106, R193). -/
def hour12Operand (h : Nat) : Operand :=
  if h = 0 then .hourAm 12
  else if h < 12 then .hourAm h
  else if h = 12 then .hourPm 12
  else .hourPm (h - 12 : Nat)

/-- The `hour` group of `L_ALARM` (rules R106, R193). -/
def unpackAlarmHour (hm : Nat) (hour12 : Bool) : Option Operand :=
  match unpackMask 24 hm with
  | some .all => some .everyHour
  | some (.one h) => some (if hour12 then hour12Operand h else .hourOf h)
  | some (.pair i j) => if hour12 then none else some (.hourPair i j)
  | none => none

/-- The `day` group of `L_ALARM` (rules R106, R193). -/
def unpackAlarmDay (b5 : Nat) (dom : Bool) : Option Operand :=
  if dom then
    if 1 ≤ b5 ∧ b5 ≤ 31 then some (.dayOfMonth b5) else none
  else
    match unpackMask 7 b5 with
    | some .all => some .everyDay
    | some (.one i) => some (.weekdayOf (i + 1 : Nat))
    | some (.pair i j) => some (.weekdayPair (i + 1 : Nat) (j + 1 : Nat))
    | none => none

/-- The unpacked `L_ALARM` record; `none` is `unk` (rule R193). -/
def unpackAlarm (P : Params) (p : Bytes) : Option Args :=
  if extBits p 0 6 ≤ 59 then
    match unpackAlarmMinute P (extBits p 8 6) (payloadBit p 49),
      unpackAlarmHour (extBits p 16 24) (payloadBit p 50),
      unpackAlarmDay (extBits p 40 7) (payloadBit p 48) with
    | some m, some h, some d => some [(.second, .int (extBits p 0 6)), (.minute, m), (.hour, h), (.day, d)]
    | _, _, _ => none
  else none

/-- Slot `i` of `L_PAIRS`: the named action and its parameter times the scale; `none` is `unk` (rules R104, R191). -/
def unpackSlot (P : Params) (p : Bytes) (i : Nat) : Option (Group × Operand) :=
  match actionByCode P.actions (extBits p (16 * i) 8) with
  | none => none
  | some e => some (.slot i, .action e.name (extBits p (16 * i + 8) 8 * e.scale : Nat))

/-- The slots listed, in order; one unknown code fails the whole decode (rule R191). -/
def unpackSlots (P : Params) (p : Bytes) : List Nat → Option Args
  | [] => some []
  | i :: is =>
    match unpackSlot P p i, unpackSlots P p is with
    | some s, some rest => some (s :: rest)
    | _, _ => none

/-- The record of a status byte: every pattern is recognised (rules R94, R185). -/
def unpackStatus (p : Bytes) : Args :=
  [(.fault, .bool (payloadBit p 0)), (.button, .bool (payloadBit p 1)),
   (.battery, .battery (batteryOf (extBits p 2 2))), (.primaryInput, .input (inputOf (extBits p 4 2))),
   (.secondaryInput, .input (inputOf (extBits p 6 2)))]

/-- The operand of a selection (rule R106). -/
def selectionOperand : Selection → Operand
  | .one i => .one i
  | .pair i j => .pair i j
  | .all => .all

/-- The unpack side of a field kind at a position; `none` is `unk` (rule R86). -/
def unpackKind (p : Bytes) (pos : Nat) : FieldKind → Option Operand
  | .flag => some (.bool (payloadBit p pos))
  | .uint w lo hi _ => if lo ≤ extBits p pos w ∧ extBits p pos w ≤ hi then some (.int (extBits p pos w)) else none
  | .enum w names => names[extBits p pos w]?
  | .s8 => some (.int (sext 8 (extBits p pos 8)))
  | .s16 => some (.int (sext 16 (extBits p pos 16)))
  | .duty10 => some (.int (dutyTenths (extBits p pos 10)))
  | .mask nbits _ => (unpackMask nbits (extBits p pos nbits)).map selectionOperand

/-- The record of a layout given as a list of fields, in order; one unrecognised field fails the whole decode (rules R86,
R182). -/
def unpackFields (p : Bytes) : List LayoutField → Option Args
  | [] => some []
  | f :: fs =>
    match unpackKind p f.pos f.kind, unpackFields p fs with
    | some o, some rest => some ((f.group, o) :: rest)
    | _, _ => none

/-- `unpack(layout, p)`; `none` is the row's `unk` error (rule R182). Unused bits are not read (rule R87). -/
def unpack (P : Params) : Layout → Bytes → Option Args
  | .lStatus, p => some (unpackStatus p)
  | .lTemp, p => some [(.temperature, .int (sext 8 (extBits p 0 8)))]
  | .lS16, p => some [(.value, .int (sext 16 (extBits p 0 16)))]
  | .lCtrl, p => some [(.enable, .bool (payloadBit p 0))]
  | .lU8, p => some [(.delay, .int (extBits p 0 8))]
  | .lDuty, p => some [(.duty, .int (dutyTenths (extBits p 0 10)))]
  | .lTime, p => (unpackTime P p).map timeRecord
  | .lAlarm, p => unpackAlarm P p
  | .lPairs, p => unpackSlots P p [0, 1, 2, 3, 4, 5]
  | .fields fs, p => unpackFields p fs

/-- The optional non-volatile flag of a decode (rules R88, R180 step 7). -/
def decodeNv (row : CmdRow) (p : Bytes) : Option Bool :=
  if row.nv then some (payloadBit p 7) else none

end Sys2Proof.Machine
end

