-- ==== Sys2Proof/Machine/Flags.lean ====
section
/-! DEFINITION. The engine's flag and condition computations: the kind reported at exhaustion (rules R28, R229) and the
comparators of the read-back (rules R240 to R243). There are no arithmetic flags (rule R28). -/

namespace Sys2Proof.Machine

/-- The error of an exhausted read phase, from the kind of its last failed attempt (rule R229, `EXHAUST_RULE` = `last`,
decided D23). -/
def exhaustKind : FailKind → ErrorKind
  | .corrupt => .dataCorrupted
  | .comm => .communicationError

/-- `VMASK(m)`: equality of the payloads under the mask (rule R241). -/
def vmaskMatch (m w r : Bytes) : Bool :=
  (List.range w.length).all (fun k => ((w.getD k 0 ^^^ r.getD k 0) &&& m.getD k 0) == 0)

/-- `h24` of an hour (rule R242): 12 AM is hour 0, 12 PM is hour 12. -/
def hour24 : HourT → Nat
  | .h24 h => h
  | .am h => h % 12
  | .pm h => h % 12 + 12

/-- Whether two hours are in the same mode: both 24-hour or both 12-hour (rule R242). -/
def sameHourMode : HourT → HourT → Bool
  | .h24 _, .h24 _ => true
  | .h24 _, _ => false
  | _, .h24 _ => false
  | _, _ => true

/-- `T(x)`: seconds since midnight (rules R242, R243). -/
def timeOfDay (t : TimeVal) : Nat := hour24 t.hour * 3600 + t.minute * 60 + t.second

/-- `TIME_FWD` on two unpacked times: same date, weekday and hour mode, and the read-back 0 to `tol` seconds ahead
(rules R242, R243). -/
def timeFwdVals (tol : Nat) (w r : TimeVal) : Bool :=
  w.weekday == r.weekday && w.day == r.day && w.month == r.month && w.year == r.year &&
    sameHourMode w.hour r.hour &&
    decide (0 ≤ (timeOfDay r : Int) - timeOfDay w ∧ (timeOfDay r : Int) - timeOfDay w ≤ tol)

/-- `TIME_FWD`: false if either payload does not unpack (rule R242). -/
def timeFwdMatch (P : Params) (tol : Nat) (w r : Bytes) : Bool :=
  match unpackTime P w, unpackTime P r with
  | some tw, some tr => timeFwdVals tol tw tr
  | _, _ => false

/-- `VerifyMatch(c, w, r)` (rule R240); `tol` stands for `CLOCK_TOL`. -/
def verifyMatch (P : Params) (tol : Nat) : Comparator → Bytes → Bytes → Bool
  | .vmask m, w, r => vmaskMatch m w r
  | .timeFwd, w, r => timeFwdMatch P tol w r

end Sys2Proof.Machine
end

