-- ==== Sys2Proof/Machine/State.lean ====
section
/-! DEFINITION. The state of the engine, of its ports and of the Transport boundary; the reasons a step can stop; the
state after reset. -/

namespace Sys2Proof.Machine

/-- Why the machine is stuck. Each is raised by `Sys2Proof.Machine.fsmStep` only, in a state that no request leads to
(rules R247, R312: no request leads to a state without a successor). All are safe: the spec gives these states no
transition. -/
inductive Fault where
  /-- A read attempt or the compare step with `cmdr` in no row of `CMDTAB`: rule R221 speaks of "the `CMDTAB` row of the
  request" and there is none. Safe. -/
  | noRow
  /-- The registers `st`, `mode`, `phase`, `tries`, `n` are in a combination that no line of rule R221 covers, or the
  row lacks the direction or the comparator the line needs. Safe. -/
  | noTransition
  /-- The merge step T2d with latched operands that do not pack: rule R226 says they "cannot raise, args were checked".
  Safe. -/
  | mergeRefused
  deriving DecidableEq, Repr

/-- Why an instruction has no meaning here. -/
inductive Refusal where
  /-- The instruction is not modelled: raised by no arm of `exec`, every instruction has its meaning. Safe. -/
  | notModelled (mnemonic : String)
  deriving DecidableEq, Repr

/-- The state of the machine. Plain data. -/
structure State where
  /-- FSM state (rule R24). -/
  st : FsmState
  /-- Transfer operation in progress (rule R25). -/
  mode : Mode
  /-- Retried stretch in progress (rule R25). -/
  phase : Phase
  /-- Latched max_tries (rule R26). -/
  n : Byte
  /-- Attempts made in the current phase (rule R27). -/
  tries : Byte
  /-- Kind of the last failed read attempt (rule R28). -/
  lastfail : FailKind
  /-- Running checksum accumulator (rule R21). -/
  acc : Byte
  /-- The defined bytes of the write buffer: `wbuf[0 .. wlen-1]` (rule R22). Log entry 6. -/
  wbuf : Bytes
  /-- Length of the frame in `wbuf`, 6 bits (rule R22). -/
  wlen : BitVec 6
  /-- The defined bytes of the read buffer: `rbuf[0 .. rlen-1]` (rule R23). Log entry 6. -/
  rbuf : Bytes
  /-- Length of the frame in `rbuf`, 6 bits (rule R23). -/
  rlen : BitVec 6
  /-- Effective command code of the request (rule R29). -/
  cmdr : Byte
  /-- Latched non-volatile flag (rule R29). -/
  nvr : Bool
  /-- Latched typed operands (rule R29). -/
  argr : Args
  /-- Outcome of the response (rule R30); its 5-bit code is `ErrorKind.code`. -/
  res : ErrorKind
  /-- Value of the response (rule R30). -/
  rval : RVal
  /-- Optional non-volatile flag of the response (rule R30). -/
  rnv : Option Bool
  /-- `CFG.BUS` (rule R31). -/
  cfgBus : Byte
  /-- `CFG.ADDR` (rule R31). -/
  cfgAddr : Byte
  /-- Request port: the requests presented, the one at the port first (rules R80, R310, R311). -/
  reqs : List Request
  /-- Operand port `n` of the request being accepted (rule R80). -/
  opN : Byte
  /-- Operand port `args` of the request being accepted (rule R80). -/
  opArgs : Args
  /-- Operand port `bytes` of the request being accepted (rule R80). -/
  opBytes : Bytes
  /-- The requester takes a response when there is one (rules R236, R310 b). -/
  take : Bool
  /-- Configuration port: a write presented on it (rules R31, R282). -/
  cfgPort : Option CfgWrite
  /-- Reset input (rules R300, R301). -/
  rst : Bool
  /-- The ideal device's registers, the address space of rule R50 as rule R64 models it. -/
  dev : Dev
  /-- How the next Transport calls are answered, one entry a call; past its end the oracle of rule R53 answers. -/
  script : List Override
  /-- The Transport calls completed so far, the latest first. The model's own. -/
  trace : List Call
  /-- The delays that have passed, in the unit of the parameters (rules R233, R234, R321). The model's own. -/
  elapsed : Nat
  /-- How many resets have happened: the argument of the values a reset leaves free. The model's own. -/
  resets : Nat
  deriving DecidableEq, Repr

/-- The machine right after reset (rules R35, R300). `cmdr`, `nvr`, `argr`, `CFG.BUS`, `CFG.ADDR` are unspecified
there and hold the values of log entry 1; the ports and the Transport boundary are as log entries 1 and 3 say. -/
def State.reset : State where
  st := .idle
  mode := .rd
  phase := .pre
  n := 0
  tries := 0
  lastfail := .comm
  acc := 0xFF
  wbuf := []
  wlen := 0
  rbuf := []
  rlen := 0
  cmdr := 0
  nvr := false
  argr := []
  res := .noError
  rval := .unit
  rnv := none
  cfgBus := 0
  cfgAddr := 0
  reqs := []
  opN := Config.defaultTries
  opArgs := []
  opBytes := []
  take := true
  cfgPort := none
  rst := false
  dev := []
  script := []
  trace := []
  elapsed := 0
  resets := 0

end Sys2Proof.Machine
end

