-- ==== Sys2Proof/Machine/Ops.lean ====
section
/-! DEFINITION. The named operations over the registers, the ports and the Transport: every read and write of the state
goes through them. Error entry (rule R271) and the taking of a response (rule R273) stand here once. -/

namespace Sys2Proof.Machine

/-! ## Outputs (rule R32) -/

/-- The output `busy` (rule R32). -/
def busy (s : State) : Bool := s.st != .idle

/-- The output `done` (rule R32). -/
def doneOut (s : State) : Bool := s.st == .done

/-! ## The response -/

/-- Write `res` only. -/
def setRes (k : ErrorKind) (s : State) : State := { s with res := k }

/-- `Ok(v)` with an optional non-volatile flag (rules R8, R30): the three response registers. -/
def respond (v : RVal) (nv : Option Bool) (s : State) : State := { s with res := .noError, rval := v, rnv := nv }

/-- Write `rval` only (T7 of rule R221). -/
def setRval (v : RVal) (s : State) : State := { s with rval := v }

/-- Move the FSM (rules R8, R24). -/
def goto (t : FsmState) (s : State) : State := { s with st := t }

/-- Error entry of a single-step request: `res <- kind`, `st` stays (rule R271). -/
def raiseSingle (k : ErrorKind) (s : State) : State := setRes k s

/-- Error entry of a multi-step request: `res <- kind`, `st <- DONE` (rules R8, R271). -/
def raiseMulti (k : ErrorKind) (s : State) : State := goto .done (setRes k s)

/-- T8, the requester takes the response (rules R221, R236, R273). -/
def takeResponse (s : State) : State := goto .idle s

/-! ## The registers -/

/-- Write `acc` (rule R21). -/
def setAcc (b : Byte) (s : State) : State := { s with acc := b }

/-- The latches of an accepted transfer request (rules R29, R33, R221). -/
def latch (m : Mode) (p : Phase) (cmdr : Byte) (nv : Bool) (s : State) : State :=
  { s with mode := m, phase := p, n := s.opN, cmdr := cmdr, nvr := nv, argr := s.opArgs, tries := 0, lastfail := .comm }

/-- `wbuf <- f`, `wlen <- len(f)` (rule R22). -/
def loadWbuf (f : Bytes) (s : State) : State := { s with wbuf := f, wlen := BitVec.ofNat 6 f.length }

/-- `rbuf <- f`, `rlen <- len(f)` (rule R23). -/
def loadRbuf (f : Bytes) (s : State) : State := { s with rbuf := f, rlen := BitVec.ofNat 6 f.length }

/-- `wbuf[0 .. wlen-1]` (rule R231). -/
def writeFrame (s : State) : Bytes := s.wbuf.take s.wlen.toNat

/-- `tries <- tries + 1` (rule R27). -/
def countAttempt (s : State) : State := { s with tries := s.tries + 1 }

/-- `lastfail <- k` (rule R28). -/
def setLastfail (k : FailKind) (s : State) : State := { s with lastfail := k }

/-- `phase <- p`, `tries <- 0` (rule R221). -/
def startPhase (p : Phase) (s : State) : State := { s with phase := p, tries := 0 }

/-- Let a delay pass (rules R233, R234). -/
def passTime (d : Nat) (s : State) : State := { s with elapsed := s.elapsed + d }

/-- `BACKOFF(k)` (rules R6, R233). -/
def backoff (k : Nat) : Nat := ((List.range k).map Config.backoffStep).sum

/-! ## Configuration port and reset -/

/-- A write on the configuration port takes effect only in `IDLE` (rules R31, R305); otherwise it is ignored (U5). -/
def configure (w : CfgWrite) (s : State) : State :=
  if s.st = .idle then
    match w.reg with
    | .bus => { s with cfgBus := w.val, cfgPort := none }
    | .addr => { s with cfgAddr := w.val, cfgPort := none }
  else { s with cfgPort := none }

/-- Reset of the engine in any state (rules R35, R300, R301): the request in progress is abandoned without a response;
the unspecified registers are free; the device and the calls already made are not the engine's.
DESIGN CHOICE: the reset input is a pulse of one step, which the reset step itself clears, every other port staying as it
is (log entry 3); a Transport call that had not returned leaves its script entry to the next call, and an abandoned write
never reaches the device (log entry 13). -/
def resetEngine (s : State) : State :=
  { s with
    st := .idle, mode := .rd, phase := .pre, n := 0, tries := 0, lastfail := .comm, acc := 0xFF
    wbuf := [], wlen := 0, rbuf := [], rlen := 0
    cmdr := Config.resetByte s.resets 0, nvr := Config.resetNvr s.resets, argr := Config.resetArgr s.resets
    res := .noError, rval := .unit, rnv := none
    cfgBus := Config.resetByte s.resets 1, cfgAddr := Config.resetByte s.resets 2
    rst := false, resets := s.resets + 1 }

/-! ## The request port -/

/-- The request at the port, and the state in which it has been accepted from the port: the operand ports hold its
operands (rules R80, R82). -/
def fetch (s : State) : Option (ReqWord × State) :=
  match s.reqs with
  | [] => none
  | r :: rest => some (r.word, { s with reqs := rest, opN := r.n, opArgs := r.args, opBytes := r.bytes })

/-- Present a request word, with the operands now on the operand ports, ahead of every other request. The request is
accepted by the very next step, so the engine is put in `IDLE` with no reset and no configuration write pending. -/
def presentWord (w : ReqWord) (s : State) : State :=
  { s with
    st := .idle, rst := false, cfgPort := none
    reqs := { word := w, n := s.opN, args := s.opArgs, bytes := s.opBytes } :: s.reqs }

/-- Whether a request word selects a transfer request (rule R81). -/
def isXferWord (w : ReqWord) : Bool := decide (8 ≤ (w.extractLsb' 12 4).toNat ∧ (w.extractLsb' 12 4).toNat ≤ 11)

/-- A request word that no instruction has: `BadArgument`, as a transfer request (T0r) or as a single-step request
(rules R83, R89, R222, R271). Log entry 10. -/
def refuseWord (w : ReqWord) (s : State) : State :=
  if isXferWord w then raiseMulti .badArgument s else raiseSingle .badArgument s

/-! ## The ideal device (rule R64) -/

/-- `dev[c]`, if the device holds a frame there. -/
def devGet : Dev → Nat → Option Bytes
  | [], _ => none
  | (a, f) :: rest, c => if a = c then some f else devGet rest c

/-- `dev` without an entry for `c`. -/
def devErase (d : Dev) (c : Nat) : Dev := d.filter (fun e => e.1 != c)

/-- `dev` with a new entry for `c` in its place, codes rising. -/
def devInsert (c : Nat) (f : Bytes) : Dev → Dev
  | [] => [(c, f)]
  | (a, g) :: rest =>
    if c < a then (c, f) :: (a, g) :: rest
    else if c = a then (c, f) :: rest
    else (a, g) :: devInsert c f rest

/-- `dev[c] <- f`; storing the empty sequence removes the entry, so that equal devices are equal data. -/
def devSet (d : Dev) (c : Nat) (f : Bytes) : Dev := if f = [] then devErase d c else devInsert c f d

/-- The canonical form of the device map: codes strictly rising and at most 0xFF, no empty frame. -/
def devWf : Dev → Bool
  | [] => true
  | [(a, f)] => decide (a < 256) && !f.isEmpty
  | (a, f) :: (b, g) :: rest => decide (a < b) && !f.isEmpty && devWf ((b, g) :: rest)

/-- The ideal device's answer to a read: the stored frame if it holds exactly `len` bytes, else `IoError` (rule R64). -/
def idealRead (d : Dev) (reg : Byte) (len : Nat) : Option Bytes :=
  match devGet d reg.toNat with
  | some f => if f.length = len then some f else none
  | none => none

/-- The clock frame after `TICK(k)`: k added to the seconds field and the checksum recomputed; a tick that carries out
of the field leaves a free frame (rule R64). DESIGN CHOICE: a sum above 59, the field's largest second (rule R100), is such
a carry, also a sum of 60 to 63, which the six bits would hold (log entry 4). -/
def tickFrame (k : Nat) (f : Bytes) : Bytes :=
  if extBits f 0 6 + k ≤ 59 then appendCk (insBits f.dropLast 0 6 (extBits f 0 6 + k)) else Config.tickCarry k f

/-- The row of the clock: the row `RTC_TIME` of the table, if its layout is `L_TIME` (rule R64). DESIGN CHOICE: a table
without such a row has no clock that ticks, and the clock of a row with channels is its channel 0 (log entry 4). -/
def clockRow (tab : List CmdRow) : Option CmdRow := tab.find? (fun r => r.name == .rtcTime && r.layout == .lTime)

/-- `f` is a frame of the row: a payload of its length with a checksum byte (rule R84). -/
def isRowFrame (row : CmdRow) (f : Bytes) : Bool :=
  row.rlen.map (· + 1) == some f.length || row.wlen.map (· + 1) == some f.length

/-- `TICK(k)`: the frame of the table's `RTC_TIME` row advances (rule R64). DESIGN CHOICE: without that row, or without a
frame of it in the device, a tick changes nothing (log entry 4). -/
def tickDevice (P : Params) (k : Nat) (d : Dev) : Dev :=
  match clockRow P.cmdtab with
  | none => d
  | some row =>
    match devGet d row.code.toNat with
    | none => d
    | some f => if isRowFrame row f then devSet d row.code.toNat (tickFrame k f) else d

/-- One change the device makes by itself (rule R64). -/
def devChange (P : Params) (d : Dev) : DevChange → Dev
  | .set c f => devSet d c.toNat f
  | .tick k => tickDevice P k d

/-- Byte `k` of a frame xored with `m`: the corruption of rule R64. DESIGN CHOICE: a `k` past the frame's last byte
changes nothing (log entry 4). -/
def corruptAt (k : Nat) (m : Byte) (f : Bytes) : Bytes := f.set k (f.getD k 0 ^^^ m)

/-! ## The Transport (rules R52, R53, R58, R64) -/

/-- The script entry of the next call; past the script's end the oracle answers (rule R53). -/
def nextOverride (s : State) : Override := s.script.headD { before := [], rule := .free }

/-- The device as it stands when the next call reaches it. -/
def devBefore (P : Params) (s : State) : Dev := (nextOverride s).before.foldl (devChange P) s.dev

/-- A call has returned: it is recorded, its script entry is used up, the device is as the call left it. -/
def recordCall (c : Call) (d : Dev) (s : State) : State :=
  { s with trace := c :: s.trace, script := s.script.tail, dev := d }

/-- The answer to a read: `none` if the call never returns, `some none` for `IoError`, `some (some f)` for bytes
(rules R52, R53, R64, R312 c). DESIGN CHOICE: `LOSE` at a read, which rule R64 defines for a write only, is answered as the
plain ideal device does; `CORRUPT` without a frame of the asked length is `IoError` (log entry 4). -/
def readAnswer (P : Params) (reg : Byte) (len : Nat) (s : State) : Option (Option Bytes) :=
  match (nextOverride s).rule with
  | .free => some (Config.oracleRead s.trace.length s.cfgBus s.cfgAddr reg len)
  | .reply f => some (some f)
  | .ioError => some none
  | .ideal => some (idealRead (devBefore P s) reg len)
  | .corrupt k m => some ((idealRead (devBefore P s) reg len).map (corruptAt k m))
  | .lose => some (idealRead (devBefore P s) reg len)
  | .never => none

/-- The answer to a write and the device after it: `none` if the call never returns, true for `ok`, false for
`IoError` (rules R52, R53, R64, R312 c). DESIGN CHOICE: `CORRUPT` at a write, which rule R64 defines for a read only, is
answered as the plain ideal device does (log entry 4). -/
def writeAnswer (P : Params) (reg : Byte) (f : Bytes) (s : State) : Option (Bool × Dev) :=
  match (nextOverride s).rule with
  | .free => some (Config.oracleWrite s.trace.length s.cfgBus s.cfgAddr reg f, devBefore P s)
  | .reply _ => some (true, devBefore P s)
  | .ioError => some (false, devBefore P s)
  | .ideal => some (true, devSet (devBefore P s) reg.toNat f)
  | .corrupt _ _ => some (true, devSet (devBefore P s) reg.toNat f)
  | .lose => some (true, devBefore P s)
  | .never => none

/-- `MemRead(reg, len)` (rules R8, R52): the answer and the state after the call. -/
def memRead (P : Params) (reg : Byte) (len : Nat) (s : State) : Option (Option Bytes × State) :=
  match readAnswer P reg len s with
  | none => none
  | some a => some (a, recordCall (.read s.cfgBus s.cfgAddr reg len) (devBefore P s) s)

/-- `MemWrite(reg, len(f), f)` (rules R8, R52): whether the answer is `ok`, and the state after the call. -/
def memWrite (P : Params) (reg : Byte) (f : Bytes) (s : State) : Option (Bool × State) :=
  match writeAnswer P reg f s with
  | none => none
  | some (ok, d) => some (ok, recordCall (.write s.cfgBus s.cfgAddr reg f) d s)

/-! ## Acceptance checks (rules R140, R180, R222) -/

/-- Steps 1 and 2 of rules R140 and R180, checks b and c of rule R222: the row of a command code and channel. -/
def lookupRow (tab : List CmdRow) (cmd : Byte) (ch : Nat) : Option CmdRow :=
  match lookup tab cmd with
  | none => none
  | some row => if ch < row.chans then some row else none

/-- Steps 6 and 7 of rule R180 on a payload: the value with its non-volatile flag, or the row's `unk` error. -/
def decodePayload (P : Params) (row : CmdRow) (p : Bytes) (s : State) : Except ErrorKind State :=
  match unpack P row.layout p with
  | none => .error row.unk
  | some r => .ok (respond (.record r) (decodeNv row p) s)

end Sys2Proof.Machine
end

