-- ==== Sys2Proof/Machine/Checksum.lean ====
section
/-! DEFINITION. CSG, the checksum requests (rules R120 to R125). -/

namespace Sys2Proof.Machine
open Host

/-! ## The requests over the parameters -/

/-- `CS.INIT` (rule R120). -/
def csInitRequest (s : State) : State := respond (.byte 0xFF) none (setAcc 0xFF s)

/-- `CS.ABSORB imm8` (rule R121). -/
def csAbsorbRequest (imm : Byte) (s : State) : State := respond (.byte (s.acc ^^^ imm)) none (setAcc (s.acc ^^^ imm) s)

/-- `CS.COMPUTE bytes` (rules R85, R123). -/
def csComputeRequest (P : Params) (s : State) : State :=
  if s.opBytes.length ≤ P.frameMax then respond (.byte (cksum s.opBytes)) none s else raiseSingle .badArgument s

/-- `CS.VERIFY bytes` (rules R85, R124). -/
def csVerifyRequest (P : Params) (s : State) : State :=
  if s.opBytes.length ≤ P.frameMax then respond (.bool (verifyFrame s.opBytes)) none s else raiseSingle .badArgument s

/-- `CS.APPEND bytes` (rules R85, R125). -/
def csAppendRequest (P : Params) (s : State) : State :=
  if s.opBytes.length ≤ P.frameMax - 1 then respond (.frame (appendCk s.opBytes)) none s else raiseSingle .badArgument s

/-! ## The meanings -/

/-- `CS.INIT` (rule R120). -/
def execCsInit (s : State) : Outcome State Fault Refusal :=
  .next (csInitRequest s)

/-- `CS.ABSORB imm8` (rule R121). -/
def execCsAbsorb (imm : Byte) (s : State) : Outcome State Fault Refusal :=
  .next (csAbsorbRequest imm s)

/-- `CS.COMPUTE bytes` (rules R85, R123). -/
def execCsCompute (s : State) : Outcome State Fault Refusal :=
  .next (csComputeRequest defaults s)

/-- `CS.VERIFY bytes` (rules R85, R124). -/
def execCsVerify (s : State) : Outcome State Fault Refusal :=
  .next (csVerifyRequest defaults s)

/-- `CS.APPEND bytes` (rules R85, R125). -/
def execCsAppend (s : State) : Outcome State Fault Refusal :=
  .next (csAppendRequest defaults s)

end Sys2Proof.Machine
end

