-- ==== Sys2Proof/Machine/Decoder.lean ====
section
/-! DEFINITION. DEC, the command frame decoder: the requests of rules R180 to R194. -/

namespace Sys2Proof.Machine
open Host

/-- `DEC cmd[.ch] bytes`, steps 1 to 7 (rule R180). -/
def decRequest (P : Params) (cmd : Byte) (ch : Nat) (s : State) : State :=
  match lookupRow P.cmdtab cmd ch with
  | none => raiseSingle .badArgument s
  | some row =>
    match row.rlen with
    | none => raiseSingle .badArgument s
    | some rlen =>
      if s.opBytes.length ≠ rlen + 1 then raiseSingle .badArgument s
      else if verifyFrame s.opBytes then
        match decodePayload P row (pay s.opBytes rlen) s with
        | .error k => raiseSingle k s
        | .ok s' => s'
      else raiseSingle .dataCorrupted s

/-- `DEC_STATUS` (rules R185, R180). -/
def execDecStatus (s : State) : Outcome State Fault Refusal :=
  .next (decRequest defaults 0x40 0 s)

/-- `DEC_BATTERY_TEMPERATURE` (rules R186, R180). -/
def execDecBatteryTemperature (s : State) : Outcome State Fault Refusal :=
  .next (decRequest defaults 0x47 0 s)

/-- `DEC_IO_CURRENT` (rules R187, R180). -/
def execDecIoCurrent (s : State) : Outcome State Fault Refusal :=
  .next (decRequest defaults 0x4F 0 s)

/-- `DEC_CHARGING_CONFIG` (rules R188, R180). -/
def execDecChargingConfig (s : State) : Outcome State Fault Refusal :=
  .next (decRequest defaults 0x51 0 s)

/-- `DEC_POWER_OFF` (rules R189, R180). -/
def execDecPowerOff (s : State) : Outcome State Fault Refusal :=
  .next (decRequest defaults 0x62 0 s)

/-- `DEC_BUTTON_CONFIG.SW1` (rules R191, R180). -/
def execDecButtonConfigSw1 (s : State) : Outcome State Fault Refusal :=
  .next (decRequest defaults 0x6E 0 s)

/-- `DEC_BUTTON_CONFIG.SW2` (rules R191, R180). -/
def execDecButtonConfigSw2 (s : State) : Outcome State Fault Refusal :=
  .next (decRequest defaults 0x6E 1 s)

/-- `DEC_BUTTON_CONFIG.SW3` (rules R191, R180). -/
def execDecButtonConfigSw3 (s : State) : Outcome State Fault Refusal :=
  .next (decRequest defaults 0x6E 2 s)

/-- `DEC_PWM_DUTY.1` (rules R190, R180). -/
def execDecPwmDuty1 (s : State) : Outcome State Fault Refusal :=
  .next (decRequest defaults 0x75 0 s)

/-- `DEC_PWM_DUTY.2` (rules R190, R180). -/
def execDecPwmDuty2 (s : State) : Outcome State Fault Refusal :=
  .next (decRequest defaults 0x75 1 s)

/-- `DEC_RTC_TIME` (rules R192, R180). -/
def execDecRtcTime (s : State) : Outcome State Fault Refusal :=
  .next (decRequest defaults 0xB0 0 s)

/-- `DEC_RTC_ALARM` (rules R193, R180). -/
def execDecRtcAlarm (s : State) : Outcome State Fault Refusal :=
  .next (decRequest defaults 0xB9 0 s)

end Sys2Proof.Machine
end

