-- ==== Sys2Proof/Machine/Encoder.lean ====
section
/-! DEFINITION. ENC, the command frame encoder: the requests of rules R140 to R151. -/

namespace Sys2Proof.Machine
open Host

/-- `ENC cmd[.ch] [nv] args`, steps 1 to 7 (rule R140). -/
def encRequest (P : Params) (cmd : Byte) (ch : Nat) (nv : Bool) (s : State) : State :=
  match lookupRow P.cmdtab cmd ch with
  | none => raiseSingle .badArgument s
  | some row =>
    match row.wlen with
    | none => raiseSingle .badArgument s
    | some wlen =>
      if nv && !row.nv then raiseSingle .badArgument s
      else
        match encFrame P row wlen nv s.opArgs with
        | .error k => raiseSingle k s
        | .ok f => respond (.frame f) none s

/-- `ENC_STATUS` (rules R151, R140). -/
def execEncStatus (s : State) : Outcome State Fault Refusal :=
  .next (encRequest defaults 0x40 0 false s)

/-- `ENC_BATTERY_TEMPERATURE` (rules R151, R140). -/
def execEncBatteryTemperature (s : State) : Outcome State Fault Refusal :=
  .next (encRequest defaults 0x47 0 false s)

/-- `ENC_IO_CURRENT` (rules R151, R140). -/
def execEncIoCurrent (s : State) : Outcome State Fault Refusal :=
  .next (encRequest defaults 0x4F 0 false s)

/-- `ENC_CHARGING_CONFIG` (rules R145, R140). -/
def execEncChargingConfig (nv : Bool) (s : State) : Outcome State Fault Refusal :=
  .next (encRequest defaults 0x51 0 nv s)

/-- `ENC_POWER_OFF` (rules R146, R140). -/
def execEncPowerOff (s : State) : Outcome State Fault Refusal :=
  .next (encRequest defaults 0x62 0 false s)

/-- `ENC_BUTTON_CONFIG.SW1` (rules R148, R140). -/
def execEncButtonConfigSw1 (s : State) : Outcome State Fault Refusal :=
  .next (encRequest defaults 0x6E 0 false s)

/-- `ENC_BUTTON_CONFIG.SW2` (rules R148, R140). -/
def execEncButtonConfigSw2 (s : State) : Outcome State Fault Refusal :=
  .next (encRequest defaults 0x6E 1 false s)

/-- `ENC_BUTTON_CONFIG.SW3` (rules R148, R140). -/
def execEncButtonConfigSw3 (s : State) : Outcome State Fault Refusal :=
  .next (encRequest defaults 0x6E 2 false s)

/-- `ENC_PWM_DUTY.1` (rules R147, R140). -/
def execEncPwmDuty1 (s : State) : Outcome State Fault Refusal :=
  .next (encRequest defaults 0x75 0 false s)

/-- `ENC_PWM_DUTY.2` (rules R147, R140). -/
def execEncPwmDuty2 (s : State) : Outcome State Fault Refusal :=
  .next (encRequest defaults 0x75 1 false s)

/-- `ENC_RTC_TIME` (rules R149, R140). -/
def execEncRtcTime (s : State) : Outcome State Fault Refusal :=
  .next (encRequest defaults 0xB0 0 false s)

/-- `ENC_RTC_ALARM` (rules R150, R140). -/
def execEncRtcAlarm (s : State) : Outcome State Fault Refusal :=
  .next (encRequest defaults 0xB9 0 false s)

end Sys2Proof.Machine
end

