-- ==== Sys2Proof/Machine/Transfer.lean ====
section
/-! DEFINITION. The acceptance of the transfer requests: transitions T0r to T0c (rules R221 to
R226). The transitions after it are in Verifier.lean. -/

namespace Sys2Proof.Machine
open Host

/-- Acceptance of `XFER.RD`: the checks of rule R222, then T0r or T0a (rules R221, R223). -/
def acceptRd (P : Params) (cmd : Byte) (ch : Nat) (s : State) : State :=
  match lookupRow P.cmdtab cmd ch with
  | none => raiseMulti .badArgument s
  | some row =>
    match row.rlen with
    | none => raiseMulti .badArgument s
    | some _ => goto .rdTry (latch .rd .pre (effCode row ch) false s)

/-- Acceptance of `XFER.WR` (mode `wr`) and `XFER.WRV` (mode `wrv`): the checks of rule R222, then T0r or T0b (rules
R221, R224, R225). `XFER.WRV` needs a comparator (check d). -/
def acceptWrite (P : Params) (m : Mode) (cmd : Byte) (ch : Nat) (nv : Bool) (s : State) : State :=
  match lookupRow P.cmdtab cmd ch with
  | none => raiseMulti .badArgument s
  | some row =>
    match row.wlen with
    | none => raiseMulti .badArgument s
    | some wlen =>
      if m = .wrv ∧ row.verify = none then raiseMulti .badArgument s
      else if nv && !row.nv then raiseMulti .badArgument s
      else
        match encFrame P row wlen nv s.opArgs with
        | .error k => raiseMulti k s
        | .ok f => goto .wrTry (loadWbuf f (latch m .write (effCode row ch) nv s))

/-- Acceptance of `XFER.RMW`: the checks of rule R222, then T0r or T0c (rules R221, R226). -/
def acceptRmw (P : Params) (cmd : Byte) (ch : Nat) (nv : Bool) (s : State) : State :=
  match lookupRow P.cmdtab cmd ch with
  | none => raiseMulti .badArgument s
  | some row =>
    if row.wlen = none ∨ row.rlen ≠ row.wlen ∨ row.verify = none then raiseMulti .badArgument s
    else if nv && !row.nv then raiseMulti .badArgument s
    else if s.opArgs = [] then raiseMulti .badArgument s
    else
      match collect P row.layout s.opArgs false with
      | .error k => raiseMulti k s
      | .ok _ => goto .rdTry (latch .rmw .pre (effCode row ch) nv s)

/-- `XFER.RD_STATUS` (rules R223, R221 T0a). -/
def execXferRdStatus (s : State) : Outcome State Fault Refusal :=
  .next (acceptRd defaults 0x40 0 s)

/-- `XFER.RD_BATTERY_TEMPERATURE` (rules R223, R221 T0a). -/
def execXferRdBatteryTemperature (s : State) : Outcome State Fault Refusal :=
  .next (acceptRd defaults 0x47 0 s)

/-- `XFER.RD_IO_CURRENT` (rules R223, R221 T0a). -/
def execXferRdIoCurrent (s : State) : Outcome State Fault Refusal :=
  .next (acceptRd defaults 0x4F 0 s)

/-- `XFER.RD_CHARGING_CONFIG` (rules R223, R221 T0a). -/
def execXferRdChargingConfig (s : State) : Outcome State Fault Refusal :=
  .next (acceptRd defaults 0x51 0 s)

/-- `XFER.WR_CHARGING_CONFIG` (rules R224, R221 T0b). -/
def execXferWrChargingConfig (nv : Bool) (s : State) : Outcome State Fault Refusal :=
  .next (acceptWrite defaults .wr 0x51 0 nv s)

/-- `XFER.WRV_CHARGING_CONFIG` (rules R225, R221 T0b). -/
def execXferWrvChargingConfig (nv : Bool) (s : State) : Outcome State Fault Refusal :=
  .next (acceptWrite defaults .wrv 0x51 0 nv s)

/-- `XFER.RMW_CHARGING_CONFIG` (rules R226, R221 T0c). -/
def execXferRmwChargingConfig (nv : Bool) (s : State) : Outcome State Fault Refusal :=
  .next (acceptRmw defaults 0x51 0 nv s)

/-- `XFER.RD_POWER_OFF` (rules R223, R221 T0a). -/
def execXferRdPowerOff (s : State) : Outcome State Fault Refusal :=
  .next (acceptRd defaults 0x62 0 s)

/-- `XFER.WR_POWER_OFF` (rules R224, R221 T0b). -/
def execXferWrPowerOff (s : State) : Outcome State Fault Refusal :=
  .next (acceptWrite defaults .wr 0x62 0 false s)

/-- `XFER.RD_BUTTON_CONFIG.SW1` (rules R223, R221 T0a). -/
def execXferRdButtonConfigSw1 (s : State) : Outcome State Fault Refusal :=
  .next (acceptRd defaults 0x6E 0 s)

/-- `XFER.WR_BUTTON_CONFIG.SW1` (rules R224, R221 T0b). -/
def execXferWrButtonConfigSw1 (s : State) : Outcome State Fault Refusal :=
  .next (acceptWrite defaults .wr 0x6E 0 false s)

/-- `XFER.WRV_BUTTON_CONFIG.SW1` (rules R225, R221 T0b). -/
def execXferWrvButtonConfigSw1 (s : State) : Outcome State Fault Refusal :=
  .next (acceptWrite defaults .wrv 0x6E 0 false s)

/-- `XFER.RMW_BUTTON_CONFIG.SW1` (rules R226, R221 T0c). -/
def execXferRmwButtonConfigSw1 (s : State) : Outcome State Fault Refusal :=
  .next (acceptRmw defaults 0x6E 0 false s)

/-- `XFER.RD_BUTTON_CONFIG.SW2` (rules R223, R221 T0a). -/
def execXferRdButtonConfigSw2 (s : State) : Outcome State Fault Refusal :=
  .next (acceptRd defaults 0x6E 1 s)

/-- `XFER.WR_BUTTON_CONFIG.SW2` (rules R224, R221 T0b). -/
def execXferWrButtonConfigSw2 (s : State) : Outcome State Fault Refusal :=
  .next (acceptWrite defaults .wr 0x6E 1 false s)

/-- `XFER.WRV_BUTTON_CONFIG.SW2` (rules R225, R221 T0b). -/
def execXferWrvButtonConfigSw2 (s : State) : Outcome State Fault Refusal :=
  .next (acceptWrite defaults .wrv 0x6E 1 false s)

/-- `XFER.RMW_BUTTON_CONFIG.SW2` (rules R226, R221 T0c). -/
def execXferRmwButtonConfigSw2 (s : State) : Outcome State Fault Refusal :=
  .next (acceptRmw defaults 0x6E 1 false s)

/-- `XFER.RD_BUTTON_CONFIG.SW3` (rules R223, R221 T0a). -/
def execXferRdButtonConfigSw3 (s : State) : Outcome State Fault Refusal :=
  .next (acceptRd defaults 0x6E 2 s)

/-- `XFER.WR_BUTTON_CONFIG.SW3` (rules R224, R221 T0b). -/
def execXferWrButtonConfigSw3 (s : State) : Outcome State Fault Refusal :=
  .next (acceptWrite defaults .wr 0x6E 2 false s)

/-- `XFER.WRV_BUTTON_CONFIG.SW3` (rules R225, R221 T0b). -/
def execXferWrvButtonConfigSw3 (s : State) : Outcome State Fault Refusal :=
  .next (acceptWrite defaults .wrv 0x6E 2 false s)

/-- `XFER.RMW_BUTTON_CONFIG.SW3` (rules R226, R221 T0c). -/
def execXferRmwButtonConfigSw3 (s : State) : Outcome State Fault Refusal :=
  .next (acceptRmw defaults 0x6E 2 false s)

/-- `XFER.RD_PWM_DUTY.1` (rules R223, R221 T0a). -/
def execXferRdPwmDuty1 (s : State) : Outcome State Fault Refusal :=
  .next (acceptRd defaults 0x75 0 s)

/-- `XFER.WR_PWM_DUTY.1` (rules R224, R221 T0b). -/
def execXferWrPwmDuty1 (s : State) : Outcome State Fault Refusal :=
  .next (acceptWrite defaults .wr 0x75 0 false s)

/-- `XFER.WRV_PWM_DUTY.1` (rules R225, R221 T0b). -/
def execXferWrvPwmDuty1 (s : State) : Outcome State Fault Refusal :=
  .next (acceptWrite defaults .wrv 0x75 0 false s)

/-- `XFER.RMW_PWM_DUTY.1` (rules R226, R221 T0c). -/
def execXferRmwPwmDuty1 (s : State) : Outcome State Fault Refusal :=
  .next (acceptRmw defaults 0x75 0 false s)

/-- `XFER.RD_PWM_DUTY.2` (rules R223, R221 T0a). -/
def execXferRdPwmDuty2 (s : State) : Outcome State Fault Refusal :=
  .next (acceptRd defaults 0x75 1 s)

/-- `XFER.WR_PWM_DUTY.2` (rules R224, R221 T0b). -/
def execXferWrPwmDuty2 (s : State) : Outcome State Fault Refusal :=
  .next (acceptWrite defaults .wr 0x75 1 false s)

/-- `XFER.WRV_PWM_DUTY.2` (rules R225, R221 T0b). -/
def execXferWrvPwmDuty2 (s : State) : Outcome State Fault Refusal :=
  .next (acceptWrite defaults .wrv 0x75 1 false s)

/-- `XFER.RMW_PWM_DUTY.2` (rules R226, R221 T0c). -/
def execXferRmwPwmDuty2 (s : State) : Outcome State Fault Refusal :=
  .next (acceptRmw defaults 0x75 1 false s)

/-- `XFER.RD_RTC_TIME` (rules R223, R221 T0a). -/
def execXferRdRtcTime (s : State) : Outcome State Fault Refusal :=
  .next (acceptRd defaults 0xB0 0 s)

/-- `XFER.WR_RTC_TIME` (rules R224, R221 T0b). -/
def execXferWrRtcTime (s : State) : Outcome State Fault Refusal :=
  .next (acceptWrite defaults .wr 0xB0 0 false s)

/-- `XFER.WRV_RTC_TIME` (rules R225, R221 T0b). -/
def execXferWrvRtcTime (s : State) : Outcome State Fault Refusal :=
  .next (acceptWrite defaults .wrv 0xB0 0 false s)

/-- `XFER.RMW_RTC_TIME` (rules R226, R221 T0c). -/
def execXferRmwRtcTime (s : State) : Outcome State Fault Refusal :=
  .next (acceptRmw defaults 0xB0 0 false s)

/-- `XFER.RD_RTC_ALARM` (rules R223, R221 T0a). -/
def execXferRdRtcAlarm (s : State) : Outcome State Fault Refusal :=
  .next (acceptRd defaults 0xB9 0 s)

/-- `XFER.WR_RTC_ALARM` (rules R224, R221 T0b). -/
def execXferWrRtcAlarm (s : State) : Outcome State Fault Refusal :=
  .next (acceptWrite defaults .wr 0xB9 0 false s)

/-- `XFER.WRV_RTC_ALARM` (rules R225, R221 T0b). -/
def execXferWrvRtcAlarm (s : State) : Outcome State Fault Refusal :=
  .next (acceptWrite defaults .wrv 0xB9 0 false s)

/-- `XFER.RMW_RTC_ALARM` (rules R226, R221 T0c). -/
def execXferRmwRtcAlarm (s : State) : Outcome State Fault Refusal :=
  .next (acceptRmw defaults 0xB9 0 false s)

end Sys2Proof.Machine
end

