-- ==== Sys2Proof/Machine/Dispatch.lean ====
section
/-! DEFINITION. The meaning of each request as it is accepted: one arm per constructor of Instr. -/

namespace Sys2Proof.Machine
open Host

def exec (i : Instr) (s : State) : Host.Outcome State Fault Refusal :=
  match i with
  | .csInit => Sys2Proof.Machine.execCsInit s
  | .csAbsorb imm => Sys2Proof.Machine.execCsAbsorb imm s
  | .csCompute => Sys2Proof.Machine.execCsCompute s
  | .csVerify => Sys2Proof.Machine.execCsVerify s
  | .csAppend => Sys2Proof.Machine.execCsAppend s
  | .encStatus => Sys2Proof.Machine.execEncStatus s
  | .decStatus => Sys2Proof.Machine.execDecStatus s
  | .xferRdStatus => Sys2Proof.Machine.execXferRdStatus s
  | .encBatteryTemperature => Sys2Proof.Machine.execEncBatteryTemperature s
  | .decBatteryTemperature => Sys2Proof.Machine.execDecBatteryTemperature s
  | .xferRdBatteryTemperature => Sys2Proof.Machine.execXferRdBatteryTemperature s
  | .encIoCurrent => Sys2Proof.Machine.execEncIoCurrent s
  | .decIoCurrent => Sys2Proof.Machine.execDecIoCurrent s
  | .xferRdIoCurrent => Sys2Proof.Machine.execXferRdIoCurrent s
  | .encChargingConfig nv => Sys2Proof.Machine.execEncChargingConfig nv s
  | .decChargingConfig => Sys2Proof.Machine.execDecChargingConfig s
  | .xferRdChargingConfig => Sys2Proof.Machine.execXferRdChargingConfig s
  | .xferWrChargingConfig nv => Sys2Proof.Machine.execXferWrChargingConfig nv s
  | .xferWrvChargingConfig nv => Sys2Proof.Machine.execXferWrvChargingConfig nv s
  | .xferRmwChargingConfig nv => Sys2Proof.Machine.execXferRmwChargingConfig nv s
  | .encPowerOff => Sys2Proof.Machine.execEncPowerOff s
  | .decPowerOff => Sys2Proof.Machine.execDecPowerOff s
  | .xferRdPowerOff => Sys2Proof.Machine.execXferRdPowerOff s
  | .xferWrPowerOff => Sys2Proof.Machine.execXferWrPowerOff s
  | .encButtonConfigSw1 => Sys2Proof.Machine.execEncButtonConfigSw1 s
  | .decButtonConfigSw1 => Sys2Proof.Machine.execDecButtonConfigSw1 s
  | .xferRdButtonConfigSw1 => Sys2Proof.Machine.execXferRdButtonConfigSw1 s
  | .xferWrButtonConfigSw1 => Sys2Proof.Machine.execXferWrButtonConfigSw1 s
  | .xferWrvButtonConfigSw1 => Sys2Proof.Machine.execXferWrvButtonConfigSw1 s
  | .xferRmwButtonConfigSw1 => Sys2Proof.Machine.execXferRmwButtonConfigSw1 s
  | .encButtonConfigSw2 => Sys2Proof.Machine.execEncButtonConfigSw2 s
  | .decButtonConfigSw2 => Sys2Proof.Machine.execDecButtonConfigSw2 s
  | .xferRdButtonConfigSw2 => Sys2Proof.Machine.execXferRdButtonConfigSw2 s
  | .xferWrButtonConfigSw2 => Sys2Proof.Machine.execXferWrButtonConfigSw2 s
  | .xferWrvButtonConfigSw2 => Sys2Proof.Machine.execXferWrvButtonConfigSw2 s
  | .xferRmwButtonConfigSw2 => Sys2Proof.Machine.execXferRmwButtonConfigSw2 s
  | .encButtonConfigSw3 => Sys2Proof.Machine.execEncButtonConfigSw3 s
  | .decButtonConfigSw3 => Sys2Proof.Machine.execDecButtonConfigSw3 s
  | .xferRdButtonConfigSw3 => Sys2Proof.Machine.execXferRdButtonConfigSw3 s
  | .xferWrButtonConfigSw3 => Sys2Proof.Machine.execXferWrButtonConfigSw3 s
  | .xferWrvButtonConfigSw3 => Sys2Proof.Machine.execXferWrvButtonConfigSw3 s
  | .xferRmwButtonConfigSw3 => Sys2Proof.Machine.execXferRmwButtonConfigSw3 s
  | .encPwmDuty1 => Sys2Proof.Machine.execEncPwmDuty1 s
  | .decPwmDuty1 => Sys2Proof.Machine.execDecPwmDuty1 s
  | .xferRdPwmDuty1 => Sys2Proof.Machine.execXferRdPwmDuty1 s
  | .xferWrPwmDuty1 => Sys2Proof.Machine.execXferWrPwmDuty1 s
  | .xferWrvPwmDuty1 => Sys2Proof.Machine.execXferWrvPwmDuty1 s
  | .xferRmwPwmDuty1 => Sys2Proof.Machine.execXferRmwPwmDuty1 s
  | .encPwmDuty2 => Sys2Proof.Machine.execEncPwmDuty2 s
  | .decPwmDuty2 => Sys2Proof.Machine.execDecPwmDuty2 s
  | .xferRdPwmDuty2 => Sys2Proof.Machine.execXferRdPwmDuty2 s
  | .xferWrPwmDuty2 => Sys2Proof.Machine.execXferWrPwmDuty2 s
  | .xferWrvPwmDuty2 => Sys2Proof.Machine.execXferWrvPwmDuty2 s
  | .xferRmwPwmDuty2 => Sys2Proof.Machine.execXferRmwPwmDuty2 s
  | .encRtcTime => Sys2Proof.Machine.execEncRtcTime s
  | .decRtcTime => Sys2Proof.Machine.execDecRtcTime s
  | .xferRdRtcTime => Sys2Proof.Machine.execXferRdRtcTime s
  | .xferWrRtcTime => Sys2Proof.Machine.execXferWrRtcTime s
  | .xferWrvRtcTime => Sys2Proof.Machine.execXferWrvRtcTime s
  | .xferRmwRtcTime => Sys2Proof.Machine.execXferRmwRtcTime s
  | .encRtcAlarm => Sys2Proof.Machine.execEncRtcAlarm s
  | .decRtcAlarm => Sys2Proof.Machine.execDecRtcAlarm s
  | .xferRdRtcAlarm => Sys2Proof.Machine.execXferRdRtcAlarm s
  | .xferWrRtcAlarm => Sys2Proof.Machine.execXferWrRtcAlarm s
  | .xferWrvRtcAlarm => Sys2Proof.Machine.execXferWrvRtcAlarm s
  | .xferRmwRtcAlarm => Sys2Proof.Machine.execXferRmwRtcAlarm s

end Sys2Proof.Machine
end

