-- ==== Sys2Proof/Machine/Accept.lean ====
section
/-! DEFINITION. The acceptance of the request at the port (rules R80, R83, R89, R220). -/

namespace Sys2Proof.Machine
open Host

/-- The acceptance of the request word `w`: its instruction's meaning, or `BadArgument` (rules R83, R89, R220). -/
def acceptWord (w : ReqWord) (s : State) : Outcome State Fault Refusal :=
  match decode w with
  | .ok i => exec i s
  | .error _ => .next (refuseWord w s)

/-- In `IDLE` a step accepts the request at the port, or waits (rules R220, R312 a). -/
def idleStep (s : State) : Outcome State Fault Refusal :=
  match fetch s with
  | none => .next s
  | some (w, s') => acceptWord w s'

end Sys2Proof.Machine
end

