-- ==== Sys2Proof/Machine/Verifier.lean ====
section
/-! DEFINITION. RAW, the read-after-write verifier: transitions T1 to T8 of rule R221 over the parameters `P`. -/

namespace Sys2Proof.Machine
open Host

/-! ## Reads: T1 to T3 -/

/-- A failed read attempt: T2a (`comm`) and T2b (`corrupt`) (rules R221, R228). -/
def readFailed (k : FailKind) (s : State) : State := goto .rdWait (setLastfail k (countAttempt s))

/-- T2c: the response of `XFER.RD` from the payload read, `Ok` or the row's `unk` (rules R221, R230). -/
def readDecode (P : Params) (row : CmdRow) (rlen : Nat) (s : State) : State :=
  match decodePayload P row (pay s.rbuf rlen) s with
  | .error k => raiseMulti k s
  | .ok s' => goto .done s'

/-- T2d: the merge step of `XFER.RMW` (rules R221, R237). -/
def readMerge (P : Params) (row : CmdRow) (rlen : Nat) (s : State) : Outcome State Fault Refusal :=
  match mergeFrame P row (pay s.rbuf rlen) s.nvr s.argr with
  | .error _ => .fault .mergeRefused
  | .ok f => .next (goto .wrTry (startPhase .write (loadWbuf f s)))

/-- T2c, T2d, T2e: a clean frame is in `rbuf` and the attempt is counted (rule R221). -/
def readClean (P : Params) (row : CmdRow) (rlen : Nat) (s : State) : Outcome State Fault Refusal :=
  match s.mode, s.phase with
  | .rd, _ => .next (readDecode P row rlen s)
  | .rmw, .pre => readMerge P row rlen s
  | _, .back => .next (goto .cmp s)
  | _, _ => .fault .noTransition

/-- What a returned read attempt does: T2a on `IoError` or a wrong length, T2b on a bad checksum, else a clean frame
(rules R52, R221, R228). -/
def readResult (P : Params) (row : CmdRow) (rlen : Nat) (a : Option Bytes) (s : State) : Outcome State Fault Refusal :=
  match a with
  | none => .next (readFailed .comm s)
  | some f =>
    if f.length ≠ rlen + 1 then .next (readFailed .comm s)
    else if verifyFrame f then readClean P row rlen (loadRbuf f (countAttempt s))
    else .next (readFailed .corrupt (loadRbuf f s))

/-- One read attempt: `MemRead(cmdr, row.rlen + 1)`; a call that never returns leaves the engine where it is (rules R54,
R221, R312 c). -/
def readAttempt (P : Params) (s : State) : Outcome State Fault Refusal :=
  match rowOf P.cmdtab s.cmdr with
  | none => .fault .noRow
  | some row =>
    match row.rlen with
    | none => .fault .noTransition
    | some rlen =>
      match memRead P s.cmdr (rlen + 1) s with
      | none => .next s
      | some (a, s') => readResult P row rlen a s'

/-- The state `RD_TRY`: T1 when `tries` = `n`, else an attempt (rules R221, R227, R229). -/
def rdTryStep (P : Params) (s : State) : Outcome State Fault Refusal :=
  if s.tries = s.n then .next (raiseMulti (exhaustKind s.lastfail) s)
  else if s.tries < s.n then readAttempt P s
  else .fault .noTransition

/-- The delay after a failed read attempt: `BACKOFF(tries)`, plus `COOLDOWN` after an `IoError` (rule R233). -/
def readDelay (s : State) : Nat :=
  backoff s.tries.toNat + (if s.lastfail = .comm then Config.cooldown else 0)

/-- T3 (rules R221, R233). -/
def rdWaitStep (s : State) : State := goto .rdTry (passTime (readDelay s) s)

/-! ## Writes: T4 to T6 -/

/-- T5b and T5c: a write that answered `ok` (rules R221, R231, R234). -/
def writeDone (s : State) : Outcome State Fault Refusal :=
  match s.mode with
  | .wr => .next (goto .done (respond .unit none (countAttempt s)))
  | .wrv => .next (goto .rdTry (passTime Config.settle (setLastfail .comm (startPhase .back s))))
  | .rmw => .next (goto .rdTry (passTime Config.settle (setLastfail .comm (startPhase .back s))))
  | .rd => .fault .noTransition

/-- One write attempt: `MemWrite(cmdr, wlen, wbuf[0 .. wlen-1])`; T5a on `IoError` (rules R221, R231, R312 c). -/
def writeAttempt (P : Params) (s : State) : Outcome State Fault Refusal :=
  match memWrite P s.cmdr (writeFrame s) s with
  | none => .next s
  | some (true, s') => writeDone s'
  | some (false, s') => .next (goto .wrWait (countAttempt s'))

/-- The state `WR_TRY`: T4 when `tries` = `n`, else an attempt (rules R221, R232). -/
def wrTryStep (P : Params) (s : State) : Outcome State Fault Refusal :=
  if s.tries = s.n then .next (raiseMulti .communicationError s)
  else if s.tries < s.n then writeAttempt P s
  else .fault .noTransition

/-- T6: `BACKOFF(tries)` plus `COOLDOWN`, for a failed write is an `IoError` (rules R221, R233). -/
def wrWaitStep (s : State) : State := goto .wrTry (passTime (backoff s.tries.toNat + Config.cooldown) s)

/-! ## The compare step and the response: T7, T8 -/

/-- T7: `NoError` on a match, else `WriteFailed`; `rval <- ()` (rules R221, R235). -/
def cmpStep (P : Params) (s : State) : Outcome State Fault Refusal :=
  match rowOf P.cmdtab s.cmdr with
  | none => .fault .noRow
  | some row =>
    match row.verify, row.wlen, row.rlen with
    | some c, some wlen, some rlen =>
      if verifyMatch P Config.clockTol c (pay s.wbuf wlen) (pay s.rbuf rlen) then
        .next (goto .done (respond .unit none s))
      else .next (raiseMulti .writeFailed (setRval .unit s))
    | _, _, _ => .fault .noTransition

/-- `DONE`: T8 when the requester takes the response, else it waits (rules R221, R236, R312 b). -/
def doneStep (s : State) : State := if s.take then takeResponse s else s

/-- One transition of the engine in a state other than the acceptance of a request; `IDLE` without a request waits (rules
R221, R312 a). -/
def fsmStep (P : Params) (s : State) : Outcome State Fault Refusal :=
  match s.st with
  | .idle => .next s
  | .rdTry => rdTryStep P s
  | .rdWait => .next (rdWaitStep s)
  | .wrTry => wrTryStep P s
  | .wrWait => .next (wrWaitStep s)
  | .cmp => cmpStep P s
  | .done => .next (doneStep s)

end Sys2Proof.Machine
end

