-- ==== Sys2Proof/Machine/Step.lean ====
section
/-! DEFINITION. One step of the machine (rules R11, R220): a reset, a configuration write, the acceptance of a request,
or one transition of the engine. -/

namespace Sys2Proof.Machine
open Host

/-- One step (rules R11, R220). The reset input comes first (rule R301), then a write on the configuration port, then
the engine. Log entry 3. -/
def step (s : State) : Outcome State Fault Refusal :=
  if s.rst then .next (resetEngine s)
  else
    match s.cfgPort with
    | some w => .next (configure w s)
    | none => if s.st = .idle then idleStep s else fsmStep defaults s

/-- The request word in the low `nbits` bits of `w`, presented on the request port so that the next step accepts it. -/
def State.withFetchWord (s : State) (nbits w : Nat) : State :=
  presentWord (BitVec.ofNat 16 (w % 2 ^ nbits)) s

end Sys2Proof.Machine
end

