-- ==== Sys2Proof/Machine/Engine.lean ====
section
/-! DEFINITION. The engine over any parameters (rules R6, R89): a request word is served from its fields and the command
table alone, with no instruction between. With the parameters of rule R6 this is the machine of Step.lean
(`Sys2Proof.Machine.step_eq_stepFor` in Laws/Engine.lean). -/

namespace Sys2Proof.Machine
open Host

/-- The engine right after reset, the requester giving `DEFAULT_TRIES` where it gives no `n` (rules R6, R35, R82). -/
def resetFor (P : Params) : State := { State.reset with opN := P.defaultTries }

/-- The command code of a request word (rule R80). -/
def wordCmd (w : ReqWord) : Byte := w.extractLsb' 0 8

/-- The channel of a request word (rule R80). -/
def wordCh (w : ReqWord) : Nat := (w.extractLsb' 9 2).toNat

/-- The flag `nv` of a request word (rule R80). -/
def wordNv (w : ReqWord) : Bool := w.getLsbD 11

/-- A `CS` request is served if its must-be-zero field is zero (rule R83). -/
def csServed (zero : Bool) (s t : State) : State := if zero then t else raiseSingle .badArgument s

/-- A single-step command request is served if `z` is 0 (rules R83, R140, R180). -/
def codecServed (w : ReqWord) (s t : State) : State := if w.getLsbD 8 then raiseSingle .badArgument s else t

/-- A transfer request passes check a of rule R222 if `z` is 0. -/
def transferServed (w : ReqWord) (s t : State) : State := if w.getLsbD 8 then raiseMulti .badArgument s else t

/-- The request of a word, by its operation (rules R81, R83, R222), over the parameters `P`. -/
def requestFor (P : Params) (w : ReqWord) (s : State) : State :=
  match (w.extractLsb' 12 4).toNat with
  | 1 => csServed (w.extractLsb' 0 12 == 0) s (csInitRequest s)
  | 2 => csServed (w.extractLsb' 8 4 == 0) s (csAbsorbRequest (wordCmd w) s)
  | 3 => csServed (w.extractLsb' 0 12 == 0) s (csComputeRequest P s)
  | 4 => csServed (w.extractLsb' 0 12 == 0) s (csVerifyRequest P s)
  | 5 => csServed (w.extractLsb' 0 12 == 0) s (csAppendRequest P s)
  | 6 => codecServed w s (encRequest P (wordCmd w) (wordCh w) (wordNv w) s)
  | 7 => codecServed w s (if wordNv w then raiseSingle .badArgument s else decRequest P (wordCmd w) (wordCh w) s)
  | 8 => transferServed w s (if wordNv w then raiseMulti .badArgument s else acceptRd P (wordCmd w) (wordCh w) s)
  | 9 => transferServed w s (acceptWrite P .wr (wordCmd w) (wordCh w) (wordNv w) s)
  | 10 => transferServed w s (acceptWrite P .wrv (wordCmd w) (wordCh w) (wordNv w) s)
  | 11 => transferServed w s (acceptRmw P (wordCmd w) (wordCh w) (wordNv w) s)
  | _ => raiseSingle .badArgument s

/-- In `IDLE` a step accepts the request at the port, or waits (rules R220, R312 a). -/
def idleStepFor (P : Params) (s : State) : State :=
  match fetch s with
  | none => s
  | some (w, s') => requestFor P w s'

/-- One step of the engine with the parameters `P` (rules R6, R11, R220), the inputs in the order of log entry 3. -/
def stepFor (P : Params) (s : State) : Outcome State Fault Refusal :=
  if s.rst then .next (resetEngine s)
  else
    match s.cfgPort with
    | some w => .next (configure w s)
    | none => if s.st = .idle then .next (idleStepFor P s) else fsmStep P s

end Sys2Proof.Machine
end

