-- ==== Sys2Proof/Safety.lean ====
section
/-! DEFINITION. What a safe run is: the engine never gets stuck (rules R247, R312), and the invariant of the registers
that rules its stuck states out. -/

namespace Sys2Proof.Machine
open Host

/-- A state from which the machine has a step (rule R312: no request leads to a state without a successor). -/
def Safe (s : State) : Prop := ∃ s', step s = .next s'

/-- The row serves verified writes (rules R90, R222 d). -/
def verifiable (row : CmdRow) : Bool := row.wlen.isSome && row.rlen == row.wlen && row.verify.isSome

/-- `wbuf` holds a frame of the row: its payload length plus one bytes, with a good checksum (rules R22, R54, R84). -/
def frameReady (row : CmdRow) (s : State) : Bool := row.wlen.map (· + 1) == some s.wbuf.length && verifyFrame s.wbuf

/-- The latched operands convert (rule R226: the merge "cannot raise, args were checked"). -/
def mergeReady (P : Params) (row : CmdRow) (s : State) : Bool :=
  match collect P row.layout s.argr false with
  | .ok _ => true
  | .error _ => false

/-- What holds in `RD_TRY` and `RD_WAIT`: the read of `XFER.RD`, the pre-read of `XFER.RMW`, or a read-back (rules R25,
R221). -/
def readShape (P : Params) (row : CmdRow) (s : State) : Bool :=
  match s.mode, s.phase with
  | .rd, .pre => row.rlen.isSome
  | .rmw, .pre => verifiable row && mergeReady P row s
  | .wrv, .back => verifiable row && frameReady row s
  | .rmw, .back => verifiable row && frameReady row s
  | _, _ => false

/-- What holds in `WR_TRY` and `WR_WAIT` (rules R25, R221). -/
def writeShape (row : CmdRow) (s : State) : Bool :=
  s.phase == .write && frameReady row s &&
    match s.mode with
    | .rd => false
    | .wr => true
    | .wrv => verifiable row
    | .rmw => verifiable row

/-- What holds in `CMP`: a verified write with a clean read-back (rules R221, R235). -/
def cmpShape (row : CmdRow) (s : State) : Bool :=
  s.phase == .back && (s.mode == .wrv || s.mode == .rmw) && verifiable row && frameReady row s &&
    row.rlen.map (· + 1) == some s.rbuf.length && verifyFrame s.rbuf

/-- The registers of a request in progress fit the state (rules R24, R25, R221). -/
def shapeOk (P : Params) (s : State) : Bool :=
  match s.st with
  | .idle => true
  | .done => true
  | .rdTry => (rowOf P.cmdtab s.cmdr).any (fun row => readShape P row s)
  | .rdWait => (rowOf P.cmdtab s.cmdr).any (fun row => readShape P row s)
  | .wrTry => (rowOf P.cmdtab s.cmdr).any (fun row => writeShape row s)
  | .wrWait => (rowOf P.cmdtab s.cmdr).any (fun row => writeShape row s)
  | .cmp => (rowOf P.cmdtab s.cmdr).any (fun row => cmpShape row s)

/-- The invariant of the engine with the parameters `P`: `tries` never exceeds `n` (rule R27), the buffers hold as many
bytes as their length registers say and at most `FRAME_MAX` (rules R22, R23), the device map is in its canonical form, and
the registers of the request in progress fit the state (rules R24, R25, R221). -/
structure InvFor (P : Params) (s : State) : Prop where
  tries_le : s.tries ≤ s.n
  wbuf_len : s.wbuf.length = s.wlen.toNat
  wbuf_max : s.wbuf.length ≤ P.frameMax
  rbuf_len : s.rbuf.length = s.rlen.toNat
  rbuf_max : s.rbuf.length ≤ P.frameMax
  dev_wf : devWf s.dev = true
  shape : shapeOk P s = true

/-- The invariant of the machine: the engine's, with the parameters of rule R6. -/
abbrev Inv (s : State) : Prop := InvFor defaults s

end Sys2Proof.Machine
end

