-- ==== Sys2Proof/WellFormed.lean ====
section
/-! DEFINITION. Well-formedness: of an instruction against a command table, of a request's operand ports, of a command
table and of an action table (rules R80, R85, R90, R92, R102). -/

namespace Sys2Proof

open Sys2Proof.Machine

/-- The base command code, the channel and the `nv` flag an instruction names; none for the `CS` requests (rule R80). -/
def instrTarget : Instr → Option (Byte × Nat × Bool)
  | .csInit => none
  | .csAbsorb _ => none
  | .csCompute => none
  | .csVerify => none
  | .csAppend => none
  | .encStatus => some (0x40, 0, false)
  | .decStatus => some (0x40, 0, false)
  | .xferRdStatus => some (0x40, 0, false)
  | .encBatteryTemperature => some (0x47, 0, false)
  | .decBatteryTemperature => some (0x47, 0, false)
  | .xferRdBatteryTemperature => some (0x47, 0, false)
  | .encIoCurrent => some (0x4F, 0, false)
  | .decIoCurrent => some (0x4F, 0, false)
  | .xferRdIoCurrent => some (0x4F, 0, false)
  | .encChargingConfig nv => some (0x51, 0, nv)
  | .decChargingConfig => some (0x51, 0, false)
  | .xferRdChargingConfig => some (0x51, 0, false)
  | .xferWrChargingConfig nv => some (0x51, 0, nv)
  | .xferWrvChargingConfig nv => some (0x51, 0, nv)
  | .xferRmwChargingConfig nv => some (0x51, 0, nv)
  | .encPowerOff => some (0x62, 0, false)
  | .decPowerOff => some (0x62, 0, false)
  | .xferRdPowerOff => some (0x62, 0, false)
  | .xferWrPowerOff => some (0x62, 0, false)
  | .encButtonConfigSw1 => some (0x6E, 0, false)
  | .decButtonConfigSw1 => some (0x6E, 0, false)
  | .xferRdButtonConfigSw1 => some (0x6E, 0, false)
  | .xferWrButtonConfigSw1 => some (0x6E, 0, false)
  | .xferWrvButtonConfigSw1 => some (0x6E, 0, false)
  | .xferRmwButtonConfigSw1 => some (0x6E, 0, false)
  | .encButtonConfigSw2 => some (0x6E, 1, false)
  | .decButtonConfigSw2 => some (0x6E, 1, false)
  | .xferRdButtonConfigSw2 => some (0x6E, 1, false)
  | .xferWrButtonConfigSw2 => some (0x6E, 1, false)
  | .xferWrvButtonConfigSw2 => some (0x6E, 1, false)
  | .xferRmwButtonConfigSw2 => some (0x6E, 1, false)
  | .encButtonConfigSw3 => some (0x6E, 2, false)
  | .decButtonConfigSw3 => some (0x6E, 2, false)
  | .xferRdButtonConfigSw3 => some (0x6E, 2, false)
  | .xferWrButtonConfigSw3 => some (0x6E, 2, false)
  | .xferWrvButtonConfigSw3 => some (0x6E, 2, false)
  | .xferRmwButtonConfigSw3 => some (0x6E, 2, false)
  | .encPwmDuty1 => some (0x75, 0, false)
  | .decPwmDuty1 => some (0x75, 0, false)
  | .xferRdPwmDuty1 => some (0x75, 0, false)
  | .xferWrPwmDuty1 => some (0x75, 0, false)
  | .xferWrvPwmDuty1 => some (0x75, 0, false)
  | .xferRmwPwmDuty1 => some (0x75, 0, false)
  | .encPwmDuty2 => some (0x75, 1, false)
  | .decPwmDuty2 => some (0x75, 1, false)
  | .xferRdPwmDuty2 => some (0x75, 1, false)
  | .xferWrPwmDuty2 => some (0x75, 1, false)
  | .xferWrvPwmDuty2 => some (0x75, 1, false)
  | .xferRmwPwmDuty2 => some (0x75, 1, false)
  | .encRtcTime => some (0xB0, 0, false)
  | .decRtcTime => some (0xB0, 0, false)
  | .xferRdRtcTime => some (0xB0, 0, false)
  | .xferWrRtcTime => some (0xB0, 0, false)
  | .xferWrvRtcTime => some (0xB0, 0, false)
  | .xferRmwRtcTime => some (0xB0, 0, false)
  | .encRtcAlarm => some (0xB9, 0, false)
  | .decRtcAlarm => some (0xB9, 0, false)
  | .xferRdRtcAlarm => some (0xB9, 0, false)
  | .xferWrRtcAlarm => some (0xB9, 0, false)
  | .xferWrvRtcAlarm => some (0xB9, 0, false)
  | .xferRmwRtcAlarm => some (0xB9, 0, false)

/-- An instruction is well-formed against a table when the table has its command, its channel, and the `nv` flag it sets
(rules R88, R92, R222 b, c, e). -/
def instrWellFormed (tab : List CmdRow) (i : Instr) : Bool :=
  match instrTarget i with
  | none => true
  | some (cmd, ch, nv) =>
    match lookup tab cmd with
    | none => false
    | some row => decide (ch < row.chans) && (!nv || row.nv)

/-- A request's `bytes` port holds 0 to `FRAME_MAX` bytes (rules R80, R85). -/
def requestWellFormed (P : Params) (r : Request) : Bool := decide (r.bytes.length ≤ P.frameMax)

/-- A payload length of a row lies in `PAYLOAD_MIN` to `PAYLOAD_MAX` and holds the layout's fields (rules R85, R90). -/
def lenWellFormed (payloadMax : Nat) (l : Layout) : Option Nat → Bool
  | none => true
  | some n => decide (Config.payloadMin ≤ n ∧ n ≤ payloadMax ∧ layoutLen l ≤ n)

/-- The comparator of a row: `rlen` = `wlen`, one mask byte per payload byte, `TIME_FWD` for `L_TIME` only (rules R90,
R242). -/
def verifyWellFormed (row : CmdRow) : Bool :=
  match row.verify with
  | none => true
  | some c =>
    row.wlen.isSome && row.rlen == row.wlen &&
      match c with
      | .vmask m => some m.length == row.wlen
      | .timeFwd => row.layout == .lTime

/-- A kind an operand can be refused with: `BadArgument` or an `Invalid*` kind (rules R93, R260). -/
def isArgumentError (k : ErrorKind) : Bool := k == .badArgument || decide (8 ≤ k.code.toNat)

/-- The values of a field kind fit its field and its error is an argument error (rules R86, R106). -/
def kindWellFormed : FieldKind → Bool
  | .flag => true
  | .uint w _ hi e => decide (hi < 2 ^ w) && isArgumentError e
  | .enum w names => decide (names.length ≤ 2 ^ w) && decide names.Nodup
  | .s8 => true
  | .s16 => true
  | .duty10 => true
  | .mask nbits e => decide (1 ≤ nbits) && isArgumentError e

/-- A layout given as a list of fields has one field a group, each of a well-formed kind (rules R86, R93). -/
def layoutWellFormed : Layout → Bool
  | .fields fs => decide ((fs.map (·.group)).Nodup) && fs.all (fun f => kindWellFormed f.kind)
  | .lStatus => true
  | .lTemp => true
  | .lS16 => true
  | .lCtrl => true
  | .lU8 => true
  | .lDuty => true
  | .lTime => true
  | .lAlarm => true
  | .lPairs => true

/-- The constraints on one row (rules R85, R86, R90). -/
def rowWellFormed (payloadMax : Nat) (row : CmdRow) : Bool :=
  decide (1 ≤ row.chans ∧ row.chans ≤ 4 ∧ row.code.toNat + row.chans ≤ 256) &&
    lenWellFormed payloadMax row.layout row.rlen && lenWellFormed payloadMax row.layout row.wlen && verifyWellFormed row &&
    (!row.nv || row.group == .config || row.group == .power) &&
    (row.unk == .unknownData || row.unk == .unknownConfig) && layoutWellFormed row.layout

/-- The code ranges of two rows do not overlap (rule R90). -/
def rowsDisjoint (a b : CmdRow) : Bool :=
  decide (a.code.toNat + a.chans ≤ b.code.toNat ∨ b.code.toNat + b.chans ≤ a.code.toNat)

/-- The constraints on any `CMDTAB` (rule R90). -/
def cmdtabWellFormed (payloadMax : Nat) : List CmdRow → Bool
  | [] => true
  | r :: rest => rowWellFormed payloadMax r && rest.all (rowsDisjoint r) && cmdtabWellFormed payloadMax rest

/-- The constraints on any `ACTION_TABLE`: scales at least 1, codes and names distinct, and `NO_FUNC` with code 0 and
scale 1 (rule R102). -/
def actionTableWellFormed (tab : List ActionEntry) : Bool :=
  tab.all (fun e => decide (1 ≤ e.scale)) && decide ((tab.map (·.code)).Nodup) && decide ((tab.map (·.name)).Nodup) &&
    tab.contains { code := 0x00, name := .noFunc, scale := 1 }

/-- The admissible values of the parameters (rule R6): `FRAME_MAX` at least 2 and within the six bits of the length
registers (rule R22), a year field of seven bits, a period field of six, a command table and an action table that are
well-formed. Log entry 9. -/
def paramsWellFormed (P : Params) : Bool :=
  decide (2 ≤ P.frameMax ∧ P.frameMax ≤ 63) &&
    decide (P.yearBase ≤ P.yearMin ∧ P.yearMax ≤ P.yearBase + 127) && decide (P.periodMax ≤ 63) &&
    cmdtabWellFormed (P.frameMax - 1) P.cmdtab && actionTableWellFormed P.actions

end Sys2Proof
end

