-- ==== Sys2Proof/Certificates/Slice0/Obligations.lean ====
section
/-! DEFINITION. The statements for the provers, and the small vocabulary they share. -/

namespace Sys2Proof.Claims

open Sys2Proof.Machine Host

/-! ## Vocabulary -/

/-- No reset and no configuration write is pending: the step is the engine's (rules R31, R301). -/
def Quiet (s : State) : Prop := s.rst = false ∧ s.cfgPort = none

/-- The state in which the request `r` has been accepted from the port, `rest` being left (rule R80). -/
def atPort (r : Request) (rest : List Request) (s : State) : State :=
  { s with reqs := rest, opN := r.n, opArgs := r.args, opBytes := r.bytes }

/-- A single-step response of kind `k`: nothing but `res` is written (rule R271). -/
def refusedHere (k : ErrorKind) (s : State) : State := { s with res := k }

/-- A multi-step response of kind `k`: `res` and `st` are written (rule R271). -/
def refusedDone (k : ErrorKind) (s : State) : State := { s with res := k, st := .done }

/-- The response `Ok(v)` with the optional flag: the three response registers (rules R8, R30). -/
def answered (v : RVal) (nv : Option Bool) (s : State) : State :=
  { s with res := .noError, rval := v, rnv := nv }

/-- Whether a 16-bit word passes the checks of rules R83, R140, R180 and R222 a to e (rule R89). -/
def Served (w : ReqWord) : Prop :=
  (w.extractLsb' 12 4 ∈ [1#4, 3#4, 4#4, 5#4] ∧ w.extractLsb' 0 12 = 0) ∨
  (w.extractLsb' 12 4 = 2#4 ∧ w.extractLsb' 8 4 = 0) ∨
  (w.getLsbD 8 = false ∧ ∃ row ∈ cmdtab, row.code = w.extractLsb' 0 8 ∧ (w.extractLsb' 9 2).toNat < row.chans ∧
    ((w.extractLsb' 12 4 = 6#4 ∧ (w.getLsbD 11 = true → row.nv = true)) ∨
     (w.extractLsb' 12 4 = 7#4 ∧ row.rlen ≠ none ∧ w.getLsbD 11 = false) ∨
     (w.extractLsb' 12 4 = 8#4 ∧ row.rlen ≠ none ∧ w.getLsbD 11 = false) ∨
     (w.extractLsb' 12 4 = 9#4 ∧ row.wlen ≠ none ∧ (w.getLsbD 11 = true → row.nv = true)) ∨
     (w.extractLsb' 12 4 = 10#4 ∧ row.wlen ≠ none ∧ row.verify ≠ none ∧ (w.getLsbD 11 = true → row.nv = true)) ∨
     (w.extractLsb' 12 4 = 11#4 ∧ row.wlen ≠ none ∧ row.rlen = row.wlen ∧ row.verify ≠ none ∧
       (w.getLsbD 11 = true → row.nv = true))))

/-- `CS.COMPUTE`, `CS.VERIFY`, `CS.APPEND`, `ENC` and `DEC`: the operations 3 to 7 (rule R81). -/
def IsPure (i : Instr) : Prop := 3 ≤ fieldOp (encode i) ∧ fieldOp (encode i) ≤ 7

/-- The transfer requests: the operations 8 to 11 (rule R81). -/
def IsXfer (i : Instr) : Prop := 8 ≤ fieldOp (encode i) ∧ fieldOp (encode i) ≤ 11

/-- `CS.INIT` followed by one `CS.ABSORB` per byte, as presented requests (rule R122). -/
def runningForm (q : Bytes) : List Request :=
  { word := encode .csInit, n := 0, args := [], bytes := [] } ::
    q.map (fun b => { word := encode (.csAbsorb b), n := 0, args := [], bytes := [] })

/-- The read-only commands' `ENC`, the requests of rule R151. -/
def readOnlyEncs : List (Instr × ReqWord) :=
  [(.encStatus, 0x6040), (.encBatteryTemperature, 0x6047), (.encIoCurrent, 0x604F)]

/-- Every `DEC` with its command's row. -/
def decs : List (Instr × CmdRow) :=
  [(.decStatus, rowStatus), (.decBatteryTemperature, rowBatteryTemperature), (.decIoCurrent, rowIoCurrent),
   (.decChargingConfig, rowChargingConfig), (.decPowerOff, rowPowerOff), (.decButtonConfigSw1, rowButtonConfig),
   (.decButtonConfigSw2, rowButtonConfig), (.decButtonConfigSw3, rowButtonConfig), (.decPwmDuty1, rowPwmDuty),
   (.decPwmDuty2, rowPwmDuty), (.decRtcTime, rowRtcTime), (.decRtcAlarm, rowRtcAlarm)]

/-- Every `XFER.RD` with its effective command code. -/
def reads : List (Instr × Byte) :=
  [(.xferRdStatus, 0x40), (.xferRdBatteryTemperature, 0x47), (.xferRdIoCurrent, 0x4F), (.xferRdChargingConfig, 0x51),
   (.xferRdPowerOff, 0x62), (.xferRdButtonConfigSw1, 0x6E), (.xferRdButtonConfigSw2, 0x6F),
   (.xferRdButtonConfigSw3, 0x70), (.xferRdPwmDuty1, 0x75), (.xferRdPwmDuty2, 0x76), (.xferRdRtcTime, 0xB0),
   (.xferRdRtcAlarm, 0xB9)]

/-- Every `XFER.WR` with its `nv` flag, its row and its effective command code. -/
def plainWrites : List (Instr × Bool × CmdRow × Byte) :=
  [(.xferWrChargingConfig false, false, rowChargingConfig, 0x51), (.xferWrChargingConfig true, true, rowChargingConfig, 0x51),
   (.xferWrPowerOff, false, rowPowerOff, 0x62),
   (.xferWrButtonConfigSw1, false, rowButtonConfig, 0x6E), (.xferWrButtonConfigSw2, false, rowButtonConfig, 0x6F),
   (.xferWrButtonConfigSw3, false, rowButtonConfig, 0x70),
   (.xferWrPwmDuty1, false, rowPwmDuty, 0x75), (.xferWrPwmDuty2, false, rowPwmDuty, 0x76),
   (.xferWrRtcTime, false, rowRtcTime, 0xB0), (.xferWrRtcAlarm, false, rowRtcAlarm, 0xB9)]

/-- Every `XFER.WRV` with its `nv` flag, its row and its effective command code. -/
def verifiedWrites : List (Instr × Bool × CmdRow × Byte) :=
  [(.xferWrvChargingConfig false, false, rowChargingConfig, 0x51), (.xferWrvChargingConfig true, true, rowChargingConfig, 0x51),
   (.xferWrvButtonConfigSw1, false, rowButtonConfig, 0x6E), (.xferWrvButtonConfigSw2, false, rowButtonConfig, 0x6F),
   (.xferWrvButtonConfigSw3, false, rowButtonConfig, 0x70),
   (.xferWrvPwmDuty1, false, rowPwmDuty, 0x75), (.xferWrvPwmDuty2, false, rowPwmDuty, 0x76),
   (.xferWrvRtcTime, false, rowRtcTime, 0xB0), (.xferWrvRtcAlarm, false, rowRtcAlarm, 0xB9)]

/-- Every `XFER.RMW` with its `nv` flag, its row and its effective command code. -/
def modifies : List (Instr × Bool × CmdRow × Byte) :=
  [(.xferRmwChargingConfig false, false, rowChargingConfig, 0x51), (.xferRmwChargingConfig true, true, rowChargingConfig, 0x51),
   (.xferRmwButtonConfigSw1, false, rowButtonConfig, 0x6E), (.xferRmwButtonConfigSw2, false, rowButtonConfig, 0x6F),
   (.xferRmwButtonConfigSw3, false, rowButtonConfig, 0x70),
   (.xferRmwPwmDuty1, false, rowPwmDuty, 0x75), (.xferRmwPwmDuty2, false, rowPwmDuty, 0x76),
   (.xferRmwRtcTime, false, rowRtcTime, 0xB0), (.xferRmwRtcAlarm, false, rowRtcAlarm, 0xB9)]

/-- Every writable command and channel: its `ENC` with the `nv` flag it sets, its `DEC`, its row. -/
def codecs : List (Instr × Instr × Bool × CmdRow) :=
  [(.encChargingConfig false, .decChargingConfig, false, rowChargingConfig),
   (.encChargingConfig true, .decChargingConfig, true, rowChargingConfig),
   (.encPowerOff, .decPowerOff, false, rowPowerOff),
   (.encButtonConfigSw1, .decButtonConfigSw1, false, rowButtonConfig),
   (.encButtonConfigSw2, .decButtonConfigSw2, false, rowButtonConfig),
   (.encButtonConfigSw3, .decButtonConfigSw3, false, rowButtonConfig),
   (.encPwmDuty1, .decPwmDuty1, false, rowPwmDuty), (.encPwmDuty2, .decPwmDuty2, false, rowPwmDuty),
   (.encRtcTime, .decRtcTime, false, rowRtcTime), (.encRtcAlarm, .decRtcAlarm, false, rowRtcAlarm)]

/-- An operand in canonical form: the members of a pair are written low member first (rule R152). -/
def canonicalOperand : Operand → Prop
  | .hourPair a b => a < b
  | .weekdayPair a b => a < b
  | _ => True

/-- Operands in canonical form for a layout: every group once, in the layout's order, pairs low member first (rule
R152). -/
def CanonicalArgs (l : Layout) (args : Args) : Prop :=
  args.map (·.1) = layoutGroups l ∧ ∀ e ∈ args, canonicalOperand e.2

/-- What the decode of an encoded operand record is: the duty in tenths of a percent, every other operand as it was
(rule R152). -/
def decodedForm (l : Layout) (args : Args) : Args :=
  match l with
  | .lDuty => args.map (fun e => match e with | (g, .int d) => (g, .int (10 * d)) | e => e)
  | _ => args

/-- A list of pairs of a known action and a count of its units, on the slots 0, 1, ... (rules R104, R148). -/
def slotArgs (pairs : List (ActionEntry × Byte)) : Args :=
  pairs.zipIdx.map (fun e => (.slot e.2, .action e.1.1.name ((e.1.2.toNat * e.1.1.scale : Nat) : Int)))

/-- The operands name the slots of such a list of at most six pairs, each slot once, in any order of their entries. -/
def SlotForm (args : Args) (pairs : List (ActionEntry × Byte)) : Prop :=
  pairs.length ≤ 6 ∧ (∀ e ∈ pairs, e.1 ∈ actionTable) ∧ args.Perm (slotArgs pairs)

/-- The byte 1 and the PERIODIC flag of a minute operand (rule R150). -/
def MinuteForm (o : Operand) (b1 periodic : Nat) : Prop :=
  (b1 ≤ 59 ∧ o = .minuteOf b1 ∧ periodic = 0) ∨ (0 < b1 ∧ b1 ≤ 60 ∧ o = .period b1 ∧ periodic = 1)

/-- The 24-bit mask and the HOUR12 flag of an hour operand (rule R150). -/
def HourForm (o : Operand) (hm hour12 : Nat) : Prop :=
  (∃ h : Nat, h ≤ 23 ∧ o = .hourOf h ∧ hm = 1 <<< h ∧ hour12 = 0) ∨
  (∃ h : Nat, 1 ≤ h ∧ h ≤ 12 ∧ o = .hourAm h ∧ hm = 1 <<< (h % 12) ∧ hour12 = 1) ∨
  (∃ h : Nat, 1 ≤ h ∧ h ≤ 12 ∧ o = .hourPm h ∧ hm = 1 <<< (h % 12 + 12) ∧ hour12 = 1) ∨
  (∃ a b : Nat, a ≤ 23 ∧ b ≤ 23 ∧ a ≠ b ∧ o = .hourPair a b ∧ hm = (1 <<< a) ||| (1 <<< b) ∧ hour12 = 0) ∨
  (o = .everyHour ∧ hm = 0xFFFFFF ∧ hour12 = 0)

/-- Byte 5 and the DOM flag of a day operand (rule R150). -/
def DayForm (o : Operand) (b5 dom : Nat) : Prop :=
  (∃ d : Nat, 1 ≤ d ∧ d ≤ 31 ∧ o = .dayOfMonth d ∧ b5 = d ∧ dom = 1) ∨
  (∃ d : Nat, 1 ≤ d ∧ d ≤ 7 ∧ o = .weekdayOf d ∧ b5 = 1 <<< (d - 1) ∧ dom = 0) ∨
  (∃ a b : Nat, 1 ≤ a ∧ a ≤ 7 ∧ 1 ≤ b ∧ b ≤ 7 ∧ a ≠ b ∧ o = .weekdayPair a b ∧
    b5 = (1 <<< (a - 1)) ||| (1 <<< (b - 1)) ∧ dom = 0) ∨
  (o = .everyDay ∧ b5 = 0x7F ∧ dom = 0)

/-- The hour operand of `RTC_TIME` and its hour byte (rule R149). -/
def TimeHourForm (o : Operand) (hb : Nat) : Prop :=
  (∃ h : Nat, h ≤ 23 ∧ o = .h24 h ∧ hb = h) ∨
  (∃ h : Nat, 1 ≤ h ∧ h ≤ 12 ∧ o = .am h ∧ hb = 0x40 + h) ∨
  (∃ h : Nat, 1 ≤ h ∧ h ≤ 12 ∧ o = .pm h ∧ hb = 0x60 + h)

/-- The error of an integer operand outside `lo` to `hi`, or of another type (rules R86, R93). -/
def intError (lo hi : Int) (k : ErrorKind) : Operand → Option ErrorKind
  | .int v => if lo ≤ v ∧ v ≤ hi then none else some k
  | _ => some k

/-- The error of the hour operand of `RTC_TIME` (rule R149). -/
def timeHourError : Operand → Option ErrorKind
  | .h24 h => if 0 ≤ h ∧ h ≤ 23 then none else some .invalidHour
  | .am h => if 1 ≤ h ∧ h ≤ 12 then none else some .invalidHour
  | .pm h => if 1 ≤ h ∧ h ≤ 12 then none else some .invalidHour
  | _ => some .invalidHour

/-- The error of the minute operand of `RTC_ALARM`, a period N being valid when `lo` < N ≤ `hi` (rule R150). -/
def alarmMinuteError (lo hi : Nat) : Operand → Option ErrorKind
  | .minuteOf m => if 0 ≤ m ∧ m ≤ 59 then none else some .invalidMinute
  | .period n => if (lo : Int) < n ∧ n ≤ (hi : Int) then none else some .invalidPeriod
  | _ => some .invalidMinute

/-- The error of the hour operand of `RTC_ALARM` (rules R106, R150). -/
def alarmHourError : Operand → Option ErrorKind
  | .hourOf h => if 0 ≤ h ∧ h ≤ 23 then none else some .invalidHour
  | .hourAm h => if 1 ≤ h ∧ h ≤ 12 then none else some .invalidHour
  | .hourPm h => if 1 ≤ h ∧ h ≤ 12 then none else some .invalidHour
  | .hourPair a b => if (0 ≤ a ∧ a ≤ 23) ∧ (0 ≤ b ∧ b ≤ 23) ∧ a ≠ b then none else some .invalidHour
  | .everyHour => none
  | _ => some .invalidHour

/-- The error of the day operand of `RTC_ALARM` (rules R106, R150). -/
def alarmDayError : Operand → Option ErrorKind
  | .dayOfMonth d => if 1 ≤ d ∧ d ≤ 31 then none else some .invalidDay
  | .weekdayOf d => if 1 ≤ d ∧ d ≤ 7 then none else some .invalidWeekday
  | .weekdayPair a b => if (1 ≤ a ∧ a ≤ 7) ∧ (1 ≤ b ∧ b ≤ 7) ∧ a ≠ b then none else some .invalidWeekday
  | .everyDay => none
  | _ => some .invalidWeekday

/-- The error of a required operand: its group's own error `k` if it is missing (rule R93). -/
def required (k : ErrorKind) (check : Operand → Option ErrorKind) : Option Operand → Option ErrorKind
  | none => some k
  | some o => check o

/-- The operands of those groups that are given one, in the order listed. -/
def given (l : List (Group × Option Operand)) : Args := l.filterMap (fun e => e.2.map (fun o => (e.1, o)))

/-- The first error of a list of checks, `NoError` if there is none (rule R143). -/
def firstError : List (Option ErrorKind) → ErrorKind
  | [] => .noError
  | some k :: _ => k
  | none :: rest => firstError rest

/-- The seven operands of `RTC_TIME`, in the layout's order (rule R149). -/
def timeArgs (second minute : Int) (hour : Operand) (weekday day month year : Int) : Args :=
  [(.second, .int second), (.minute, .int minute), (.hour, hour), (.weekday, .int weekday), (.day, .int day),
   (.month, .int month), (.year, .int year)]

/-- The byte of a natural number below 256. -/
def byte (n : Nat) : Byte := BitVec.ofNat 8 n

/-- The bounds on Transport calls of rule R247: `n`, 2·`n` or 3·`n`. -/
def maxCalls : Mode → Nat → Nat
  | .rd, n => n
  | .wr, n => n
  | .wrv, n => 2 * n
  | .rmw, n => 3 * n

/-- No scripted call fails to return (rule R247: "If every Transport call returns"). -/
def AllReturn (s : State) : Prop := ∀ o ∈ s.script, o.rule ≠ .never

/-- A Transport that fails `k` times and then succeeds with the answer `r` (rule R227). -/
def failsThen (k : Nat) (r : AnswerRule) : List Override :=
  List.replicate k { before := [], rule := .ioError } ++ [{ before := [], rule := r }]

end Sys2Proof.Claims

open Sys2Proof Sys2Proof.Machine Sys2Proof.Claims Host

/-! ## Encoding and the request port -/

/-- Decode and encode agree on every well-formed instruction, with every operand (rules R81, R89). -/
def Obligations.DecodeEncodeRoundTrip : Prop :=
  ∀ i : Instr, instrWellFormed cmdtab i = true → decode (encode i) = .ok i

/-- Each word has one meaning: a word that decodes is the encoding of its instruction (rule R89). -/
def Obligations.EncodeDecodeRoundTrip : Prop :=
  ∀ (w : ReqWord) (i : Instr), decode w = .ok i → encode i = w

/-- The decoder accepts exactly the words that pass the checks of rules R83, R140, R180 and R222 (rule R89). -/
def Obligations.DecodedWordsAreTheServedOnes : Prop :=
  ∀ w : ReqWord, (∃ i, decode w = .ok i) ↔ Served w

/-- A few words written out from the encodings of rules R120 to R226 decode to their instructions. -/
def Obligations.SampleWordsDecode : Prop :=
  decode 0x1000 = .ok .csInit ∧ decode 0x20A5 = .ok (.csAbsorb 0xA5) ∧ decode 0x6851 = .ok (.encChargingConfig true) ∧
  decode 0x746E = .ok .decButtonConfigSw3 ∧ decode 0x8275 = .ok .xferRdPwmDuty2 ∧ decode 0x9062 = .ok .xferWrPowerOff ∧
  decode 0xA0B0 = .ok .xferWrvRtcTime ∧ decode 0xB0B9 = .ok .xferRmwRtcAlarm

/-- A step in `IDLE` with a request at the port runs the instruction its word decodes to, with the request's operands on
the operand ports (rules R80, R220). -/
def Obligations.StepRunsDecodedInstruction : Prop :=
  ∀ (s : State) (r : Request) (rest : List Request) (i : Instr),
    Quiet s → s.st = .idle → s.reqs = r :: rest → decode r.word = .ok i → step s = exec i (atPort r rest s)

/-- A step on a word that is no instruction answers `BadArgument`: a transfer operation in `DONE`, any other in place;
no other register changes and no Transport call is made. The state after a reserved transfer word is the model's choice
(log entry 10). -/
def Obligations.UndecodedWordAnswersBadArgument : Prop :=
  ∀ (s : State) (r : Request) (rest : List Request) (e : Reject),
    Quiet s → s.st = .idle → s.reqs = r :: rest → decode r.word = .error e →
      step s = .next
        (if 8 ≤ (r.word.extractLsb' 12 4).toNat ∧ (r.word.extractLsb' 12 4).toNat ≤ 11 then
          refusedDone .badArgument (atPort r rest s)
        else refusedHere .badArgument (atPort r rest s))

/-- Requests wait while the engine is busy: no step taken outside `IDLE` touches the request port or the operand ports
(rules R220, R310, R311). -/
def Obligations.RequestsWaitWhileBusy : Prop :=
  ∀ s t : State, s.st ≠ .idle → step s = .next t →
    t.reqs = s.reqs ∧ t.opN = s.opN ∧ t.opArgs = s.opArgs ∧ t.opBytes = s.opBytes

/-! ## CSG -/

/-- `CS.INIT` and `CS.ABSORB` write `acc` and answer it; nothing else changes (rules R120, R121). That `rnv` is none
afterwards is read from rule R30 (log entry 11). -/
def Obligations.CsInitAndAbsorbWriteAcc : Prop :=
  ∀ s : State,
    exec .csInit s = .next { answered (.byte 0xFF) none s with acc := 0xFF } ∧
    ∀ imm : Byte, exec (.csAbsorb imm) s =
      .next { answered (.byte (s.acc ^^^ imm)) none s with acc := s.acc ^^^ imm }

/-- The running form and the pure function agree: after `CS.INIT` and one `CS.ABSORB` per byte, in any order, `acc` is
`cksum(p)` (rule R122). -/
def Obligations.RunningFormAgrees : Prop :=
  ∀ (s : State) (p q : Bytes), q.Perm p → Quiet s → s.st = .idle → s.reqs = runningForm q →
    ∃ t : State, Host.Core.run Sys2Proof.core (q.length + 1) s = .next t ∧ t.acc = cksum p ∧ t.st = .idle ∧ t.reqs = []

/-- The whole-sequence forms: their values within the length bounds, `BadArgument` beyond them; nothing but the response
changes (rules R85, R123, R124, R125). For an engine with another `FRAME_MAX` the bounds are its own (rule R6).
That `rnv` is none afterwards is read from rule R30 (log entry 11). -/
def Obligations.CsWholeSequenceForms : Prop :=
  ∀ s : State,
    (exec .csCompute s = .next
      (if s.opBytes.length ≤ 32 then answered (.byte (s.opBytes.foldl (· ^^^ ·) 0xFF)) none s
       else refusedHere .badArgument s) ∧
    exec .csAppend s = .next
      (if s.opBytes.length ≤ 31 then answered (.frame (s.opBytes ++ [s.opBytes.foldl (· ^^^ ·) 0xFF])) none s
       else refusedHere .badArgument s) ∧
    (32 < s.opBytes.length → exec .csVerify s = .next (refusedHere .badArgument s)) ∧
    (s.opBytes = [] → exec .csVerify s = .next (answered (.bool false) none s)) ∧
    (∀ (p : Bytes) (c : Byte), p.length ≤ 31 → s.opBytes = p ++ [c] →
      exec .csVerify s = .next (answered (.bool (p.foldl (· ^^^ ·) 0xFF == c)) none s))) ∧
    ∀ P : Params,
      csComputeRequest P s =
        (if s.opBytes.length ≤ P.frameMax then answered (.byte (s.opBytes.foldl (· ^^^ ·) 0xFF)) none s
         else refusedHere .badArgument s) ∧
      csAppendRequest P s =
        (if s.opBytes.length ≤ P.frameMax - 1 then
          answered (.frame (s.opBytes ++ [s.opBytes.foldl (· ^^^ ·) 0xFF])) none s
         else refusedHere .badArgument s) ∧
      (P.frameMax < s.opBytes.length → csVerifyRequest P s = refusedHere .badArgument s) ∧
      (∀ (p : Bytes) (c : Byte), p.length < P.frameMax → s.opBytes = p ++ [c] →
        csVerifyRequest P s = answered (.bool (p.foldl (· ^^^ ·) 0xFF == c)) none s)

/-- Round trip of the checksum: an appended frame verifies (rule R126). -/
def Obligations.AppendedFrameVerifies : Prop :=
  ∀ p : Bytes, p.length ≤ Config.frameMax - 1 → verifyFrame (appendCk p) = true

/-- A change of any single byte of a valid frame is detected (rule R127). -/
def Obligations.SingleByteChangeDetected : Prop :=
  ∀ (f : Bytes) (k : Nat) (b : Byte) (h : k < f.length), verifyFrame f = true → b ≠ f[k] →
    verifyFrame (f.set k b) = false

/-- What the checksum does not detect: reorderings of the payload, changes whose XOR differences cancel (two bytes
changed in the same bit among them), all ones of odd length; and that it refuses all zeros (rule R128). -/
def Obligations.ChecksumBlindSpots : Prop :=
  (∀ (p q : Bytes) (c : Byte), q.Perm p → verifyFrame (q ++ [c]) = verifyFrame (p ++ [c])) ∧
  (∀ f g : Bytes, f.length = g.length → (List.zipWith (· ^^^ ·) f g).foldl (· ^^^ ·) 0 = 0 →
    verifyFrame g = verifyFrame f) ∧
  (∀ (f : Bytes) (i j k : Nat), i < j → j < f.length → k < 8 →
    verifyFrame ((f.set i (f.getD i 0 ^^^ BitVec.twoPow 8 k)).set j (f.getD j 0 ^^^ BitVec.twoPow 8 k)) =
      verifyFrame f) ∧
  (∀ m : Nat, verifyFrame (List.replicate (2 * m + 1) 0xFF) = true) ∧
  (∀ m : Nat, verifyFrame (List.replicate m 0) = false)

/-- The accumulator is touched by `CS.INIT`, `CS.ABSORB` and reset only (rule R21). -/
def Obligations.OnlyCsInitAndAbsorbTouchAcc : Prop :=
  ∀ s t : State, step s = .next t → s.rst = false → t.acc ≠ s.acc →
    s.st = .idle ∧ ∃ r rest, s.reqs = r :: rest ∧
      (decode r.word = .ok .csInit ∨ ∃ imm, decode r.word = .ok (.csAbsorb imm))

/-! ## ENC -/

/-- `CS.COMPUTE`, `CS.VERIFY`, `CS.APPEND`, `ENC` and `DEC` change no register but the response, whatever its outcome, and
make no Transport call (rules R21, R140, R180). -/
def Obligations.CodecChangesOnlyTheResponse : Prop :=
  ∀ (i : Instr) (s t : State), IsPure i → exec i s = .next t →
    t = { s with res := t.res, rval := t.rval, rnv := t.rnv }

/-- `ENC CHARGING_CONFIG`: the control byte with `enable` in bit 0 and `nv` in bit 7; operands that are anything but one
Boolean `enable` (absent, of another type, repeated, an unknown group) are `BadArgument` (rules R88, R93, R145, R262 g).
That `rnv` is none afterwards is read from rule R30 (log entry 11). -/
def Obligations.EncChargingConfigFrame : Prop :=
  ∀ (s : State) (nv : Bool),
    (∀ b : Bool, s.opArgs = [(.enable, .bool b)] →
      exec (.encChargingConfig nv) s = .next
        (answered (.frame [byte (nv.toNat * 128 + b.toNat), 0xFF ^^^ byte (nv.toNat * 128 + b.toNat)]) none s)) ∧
    ((∀ b : Bool, s.opArgs ≠ [(.enable, .bool b)]) →
      exec (.encChargingConfig nv) s = .next (refusedHere .badArgument s))

/-- `ENC POWER_OFF` and `ENC PWM_DUTY`: the frame of an operand in range; a delay that is absent, out of range, of another
type, repeated, or beside an unknown group is `BadArgument`; a duty that is absent, out of range, of another type or repeated
is `InvalidDutyCycle` (rules R93, R146, R147, R262 g). Which error stands when a duty that is refused comes with an unknown
group is free (log entry 7). That `rnv` is none afterwards is read from rule R30 (log entry 11). -/
def Obligations.EncPowerOffAndDutyFrames : Prop :=
  ∀ s : State,
    (∀ v : Nat, v ≤ 255 → s.opArgs = [(.delay, .int v)] →
      exec .encPowerOff s = .next (answered (.frame [byte v, 0xFF ^^^ byte v]) none s)) ∧
    ((∀ v : Nat, v ≤ 255 → s.opArgs ≠ [(.delay, .int v)]) →
      exec .encPowerOff s = .next (refusedHere .badArgument s)) ∧
    ∀ i ∈ [Instr.encPwmDuty1, Instr.encPwmDuty2],
      (∀ v : Nat, v ≤ 100 → s.opArgs = [(.duty, .int v)] →
        exec i s = .next
          (answered (.frame (appendCk [byte ((v * 2046 + 100) / 200 % 256), byte ((v * 2046 + 100) / 200 / 256)])) none s)) ∧
      ((∀ v : Nat, v ≤ 100 → s.opArgs ≠ [(.duty, .int v)]) → (∀ e ∈ s.opArgs, e.1 = .duty) →
        exec i s = .next (refusedHere .invalidDutyCycle s)) ∧
      ((∃ e ∈ s.opArgs, e.1 ≠ .duty) → ∃ k, (k = .badArgument ∨ k = .invalidDutyCycle) ∧
        exec i s = .next (refusedHere k s))

/-- `ENC BUTTON_CONFIG`: operands that name the slots of a list of at most six (action, parameter) pairs, each slot once and
each parameter an exact multiple of its action's scale, are packed as code and count, the remaining slots (`NO_FUNC`, 0);
any other operands are `BadArgument`: an unknown action, a parameter that does not fit, a repeated slot, a gap between
slots, an unknown group (rules R104, R148, R262 g). That the entries may stand in any order and that a gap is refused is log
entry 17. That `rnv` is none afterwards is read from rule R30 (log entry 11). -/
def Obligations.EncButtonConfigFrame : Prop :=
  ∀ s : State, ∀ i ∈ [Instr.encButtonConfigSw1, Instr.encButtonConfigSw2, Instr.encButtonConfigSw3],
    (∀ pairs, SlotForm s.opArgs pairs →
      exec i s = .next
        (answered (.frame (appendCk (pairs.flatMap (fun e => [e.1.code, e.2]) ++ List.replicate (12 - 2 * pairs.length) 0)))
          none s)) ∧
    ((¬ ∃ pairs, SlotForm s.opArgs pairs) → exec i s = .next (refusedHere .badArgument s))

/-- `ENC RTC_TIME`: the seven bytes of operands in range, in any hour form (rule R149).
That `rnv` is none afterwards is read from rule R30 (log entry 11). -/
def Obligations.EncRtcTimeFrame : Prop :=
  ∀ (s : State) (second minute hb weekday day month year : Nat) (hour : Operand),
    second ≤ 59 → minute ≤ 59 → TimeHourForm hour hb → 1 ≤ weekday → weekday ≤ 7 → 1 ≤ day → day ≤ 31 → 1 ≤ month →
    month ≤ 12 → 2000 ≤ year → year ≤ 2099 → s.opArgs = timeArgs second minute hour weekday day month year →
      exec .encRtcTime s = .next
        (answered (.frame (appendCk
          [byte second, byte minute, byte hb, byte weekday, byte day, byte month, byte (year - 2000)])) none s)

/-- `ENC RTC_TIME`, with any of its seven operands missing, reports the first in the layout's order that is missing, out of
range or of another type; for an engine with another year range the bounds are its own (rules R6, R93, R143, R149, R270).
That a missing operand takes its turn in that order is the decision D21, which the pseudocode of rule R142 contradicts: log
entry 7. -/
def Obligations.EncRtcTimeFirstErrorWins : Prop :=
  (∀ s : State, exec .encRtcTime s = .next (encRequest defaults 0xB0 0 false s)) ∧
  ∀ P : Params, P.cmdtab = cmdtab →
    ∀ (s : State) (second minute hour weekday day month year : Option Operand),
      s.opArgs = given [(.second, second), (.minute, minute), (.hour, hour), (.weekday, weekday), (.day, day),
        (.month, month), (.year, year)] →
        (encRequest P 0xB0 0 false s).res =
          firstError [required .invalidSecond (intError 0 59 .invalidSecond) second,
            required .invalidMinute (intError 0 59 .invalidMinute) minute, required .invalidHour timeHourError hour,
            required .invalidWeekday (intError 1 7 .invalidWeekday) weekday,
            required .invalidDay (intError 1 31 .invalidDay) day,
            required .invalidMonth (intError 1 12 .invalidMonth) month,
            required .invalidYear (intError P.yearMin P.yearMax .invalidYear) year] ∧
        ((encRequest P 0xB0 0 false s).res ≠ .noError →
          encRequest P 0xB0 0 false s = refusedHere (encRequest P 0xB0 0 false s).res s)

/-- `ENC RTC_ALARM`: the seven bytes of operands in range, in every minute, hour and day form; otherwise, with any of the
four operands missing, the error of the first in the layout's order that is missing, out of range or of another type
(`InvalidSecond`, `InvalidMinute` or `InvalidPeriod`, `InvalidHour`, `InvalidDay` or `InvalidWeekday`); for an engine with
other period bounds the bounds are its own (rules R6, R93, R106, R143, R150). That a missing operand takes its turn in that
order, a missing minute as `InvalidMinute` and a missing day as `InvalidWeekday`, is log entry 7. That 12 AM is hour 0 and
12 PM is hour 12 is PRESUMED (log entry 9). That `rnv` is none afterwards is read from rule R30 (log entry 11). -/
def Obligations.EncRtcAlarmFrame : Prop :=
  (∀ (s : State) (second b1 periodic hm hour12 b5 dom : Nat) (minute hour day : Operand),
    second ≤ 59 → MinuteForm minute b1 periodic → HourForm hour hm hour12 → DayForm day b5 dom →
    s.opArgs = [(.second, .int second), (.minute, minute), (.hour, hour), (.day, day)] →
      exec .encRtcAlarm s = .next
        (answered (.frame (appendCk
          [byte second, byte b1, byte (hm % 256), byte (hm / 256 % 256), byte (hm / 65536), byte b5,
           byte (hour12 * 4 + periodic * 2 + dom)])) none s)) ∧
  (∀ s : State, exec .encRtcAlarm s = .next (encRequest defaults 0xB9 0 false s)) ∧
  ∀ P : Params, P.cmdtab = cmdtab →
    ∀ (s : State) (second minute hour day : Option Operand),
      s.opArgs = given [(.second, second), (.minute, minute), (.hour, hour), (.day, day)] →
        (encRequest P 0xB9 0 false s).res =
          firstError [required .invalidSecond (intError 0 59 .invalidSecond) second,
            required .invalidMinute (alarmMinuteError P.periodMin P.periodMax) minute,
            required .invalidHour alarmHourError hour, required .invalidWeekday alarmDayError day] ∧
        ((encRequest P 0xB9 0 false s).res ≠ .noError →
          encRequest P 0xB9 0 false s = refusedHere (encRequest P 0xB9 0 false s).res s)

/-- `ENC` of a read-only command is refused with `BadArgument`, whatever `args` holds (rule R151). -/
def Obligations.EncReadOnlyRefused : Prop :=
  ∀ e ∈ readOnlyEncs, encode e.1 = e.2 ∧ ∀ s : State, exec e.1 s = .next (refusedHere .badArgument s)

/-- Encode then decode is the identity on operands in canonical form, for every writable command, channel and `nv` flag
(the duty in tenths of a percent); the converse does not hold (rule R152). -/
def Obligations.DecodeOfEncodeIsTheOperands : Prop :=
  (∀ c ∈ codecs, ∀ (s t : State) (f : Bytes), CanonicalArgs c.2.2.2.layout s.opArgs →
    exec c.1 s = .next t → t.res = .noError → t.rval = .frame f →
    ∀ u : State, u.opBytes = f →
      exec c.2.1 u = .next
        (answered (.record (decodedForm c.2.2.2.layout s.opArgs)) (if c.2.2.2.nv then some c.2.2.1 else none) u)) ∧
  (∃ f g : Bytes, f ≠ g ∧ ∃ (v : RVal) (nv : Option Bool), ∀ u : State,
    (u.opBytes = f → exec .decChargingConfig u = .next (answered v nv u)) ∧
    (u.opBytes = g → exec .decChargingConfig u = .next (answered v nv u)))

/-! ## DEC -/

/-- `DEC` of every command: a wrong frame length is `BadArgument` whatever the checksum, and a bad checksum of a frame of
the right length is `DataCorrupted` whatever the payload (rules R180, R181). -/
def Obligations.DecChecksLengthThenChecksum : Prop :=
  ∀ d ∈ decs, ∀ s : State,
    (d.2.rlen ≠ some (s.opBytes.length - 1) ∨ s.opBytes = [] → exec d.1 s = .next (refusedHere .badArgument s)) ∧
    (d.2.rlen = some (s.opBytes.length - 1) → s.opBytes ≠ [] → verifyFrame s.opBytes = false →
      exec d.1 s = .next (refusedHere .dataCorrupted s))

/-- `DEC` of the one-byte commands and of the current: the status byte's two flags and three 2-bit enumerations, the
temperature as the byte's two's-complement value, the delay as the byte, the charging flag in bit 0 with `rnv` from bit 7,
the current as the little-endian 16-bit two's-complement value (rules R185 to R189). -/
def Obligations.DecStatusAndNumericFields : Prop :=
  ∀ (s : State) (b c : Byte),
    (s.opBytes = [b, 0xFF ^^^ b] →
      exec .decStatus s = .next
        (answered (.record
          [(.fault, .bool (b.getLsbD 0)), (.button, .bool (b.getLsbD 1)),
           (.battery, .battery (match (b.extractLsb' 2 2).toNat with
              | 0 => .normal | 1 => .bat1 | 2 => .bat2 | _ => .bat3)),
           (.primaryInput, .input (match (b.extractLsb' 4 2).toNat with
              | 0 => .notPresent | 1 => .in1 | 2 => .in2 | _ => .present)),
           (.secondaryInput, .input (match (b.extractLsb' 6 2).toNat with
              | 0 => .notPresent | 1 => .in1 | 2 => .in2 | _ => .present))]) none s) ∧
      exec .decBatteryTemperature s = .next (answered (.record [(.temperature, .int b.toInt)]) none s) ∧
      exec .decPowerOff s = .next (answered (.record [(.delay, .int b.toNat)]) none s) ∧
      exec .decChargingConfig s = .next
        (answered (.record [(.enable, .bool (b.getLsbD 0))]) (some (b.getLsbD 7)) s)) ∧
    (s.opBytes = [b, c, 0xFF ^^^ b ^^^ c] →
      exec .decIoCurrent s = .next (answered (.record [(.value, .int (c ++ b).toInt)]) none s))

/-- `DEC PWM_DUTY`: the 10-bit raw value in tenths of a percent, rounded to nearest, bits 7:2 of byte 1 ignored (rule
R190). -/
def Obligations.DecPwmDutyTenths : Prop :=
  ∀ (s : State) (b c : Byte), s.opBytes = [b, c, 0xFF ^^^ b ^^^ c] →
    ∀ i ∈ [Instr.decPwmDuty1, Instr.decPwmDuty2],
      exec i s = .next
        (answered (.record [(.duty, .int (((b.toNat + 256 * (c.toNat % 4)) * 2000 + 1023) / 2046 : Nat))]) none s)

/-- `DEC BUTTON_CONFIG`: six slots by action code, the parameter times the action's scale; one unknown code fails the
whole decode with `UnknownConfig` (rule R191). -/
def Obligations.DecButtonConfigSlots : Prop :=
  ∀ (s : State) (p : Bytes), p.length = 12 → s.opBytes = appendCk p →
    ∀ i ∈ [Instr.decButtonConfigSw1, Instr.decButtonConfigSw2, Instr.decButtonConfigSw3],
      (∀ es : List ActionEntry, es.length = 6 → (∀ e ∈ es, e ∈ actionTable) →
        (∀ k < 6, (es.map (·.code))[k]? = p[2 * k]?) →
        exec i s = .next
          (answered (.record (es.zipIdx.map
            (fun e => (.slot e.2, .action e.1.name (((p.getD (2 * e.2 + 1) 0).toNat * e.1.scale : Nat) : Int))))) none s)) ∧
      ((∃ k < 6, ∀ e ∈ actionTable, some e.code ≠ p[2 * k]?) → exec i s = .next (refusedHere .unknownConfig s))

/-- `DEC RTC_TIME`: the fields of the seven bytes, unused bits ignored; any field out of range is `UnknownData` (rule
R192). -/
def Obligations.DecRtcTimeFields : Prop :=
  ∀ (s : State) (b0 b1 b2 b3 b4 b5 b6 : Byte), s.opBytes = appendCk [b0, b1, b2, b3, b4, b5, b6] →
    exec .decRtcTime s = .next
      (if b0.toNat % 64 ≤ 59 ∧ b1.toNat % 64 ≤ 59 ∧
          (if b2.getLsbD 6 then 1 ≤ b2.toNat % 32 ∧ b2.toNat % 32 ≤ 12
           else b2.toNat % 32 ≤ 23 ∧ b2.getLsbD 5 = false) ∧
          1 ≤ b3.toNat % 8 ∧ 1 ≤ b4.toNat % 32 ∧ 1 ≤ b5.toNat % 16 ∧ b5.toNat % 16 ≤ 12 ∧ b6.toNat % 128 ≤ 99 then
        answered (.record (timeArgs (b0.toNat % 64 : Nat) (b1.toNat % 64 : Nat)
          (if b2.getLsbD 6 then
            (if b2.getLsbD 5 then .pm (b2.toNat % 32 : Nat) else .am (b2.toNat % 32 : Nat))
           else .h24 (b2.toNat % 32 : Nat))
          (b3.toNat % 8 : Nat) (b4.toNat % 32 : Nat) (b5.toNat % 16 : Nat) (b6.toNat % 128 + 2000 : Nat))) none s
      else refusedHere .unknownData s)

/-- `DEC RTC_ALARM`: the operands that the fields of the seven bytes stand for, unused bits ignored, pairs low member
first; a second, minute, period, hour mask or day that stands for none is `UnknownData` (rules R106, R193). That 12 AM is
hour 0 and 12 PM is hour 12 is PRESUMED (log entry 9). -/
def Obligations.DecRtcAlarmFields : Prop :=
  ∀ (s : State) (b0 b1 b2 b3 b4 b5 b6 : Byte), s.opBytes = appendCk [b0, b1, b2, b3, b4, b5, b6] →
    (∀ (minute hour day : Operand) (hour12 : Nat), b0.toNat % 64 ≤ 59 →
      MinuteForm minute (b1.toNat % 64) (b6.getLsbD 1).toNat →
      HourForm hour (b2.toNat + 256 * b3.toNat + 65536 * b4.toNat) hour12 →
      (hour = .everyHour ∨ hour12 = (b6.getLsbD 2).toNat) →
      DayForm day (b5.toNat % 128) (b6.getLsbD 0).toNat → canonicalOperand hour → canonicalOperand day →
      exec .decRtcAlarm s = .next
        (answered (.record [(.second, .int (b0.toNat % 64 : Nat)), (.minute, minute), (.hour, hour), (.day, day)])
          none s)) ∧
    ((59 < b0.toNat % 64 ∨
      (∀ minute, ¬ MinuteForm minute (b1.toNat % 64) (b6.getLsbD 1).toNat) ∨
      (∀ hour hour12, (hour = .everyHour ∨ hour12 = (b6.getLsbD 2).toNat) →
        ¬ HourForm hour (b2.toNat + 256 * b3.toNat + 65536 * b4.toNat) hour12) ∨
      (∀ day, ¬ DayForm day (b5.toNat % 128) (b6.getLsbD 0).toNat)) →
      exec .decRtcAlarm s = .next (refusedHere .unknownData s))

/-! ## The transfer requests: acceptance -/

/-- `XFER.RD` of every readable command and channel is accepted (T0a): the request is latched, `tries` and `lastfail`
start afresh, and the engine goes to `RD_TRY`; nothing else changes (rules R29, R33, R221, R223).
That the latches of rule R33 are written although T0a does not list them all is log entry 12. -/
def Obligations.XferRdIsAccepted : Prop :=
  ∀ e ∈ reads, ∀ s : State,
    exec e.1 s = .next
      { s with st := .rdTry, mode := .rd, phase := .pre, n := s.opN, cmdr := e.2, nvr := false, argr := s.opArgs,
               tries := 0, lastfail := .comm }

/-- `XFER.WR` of every writable command and channel and `XFER.WRV` of every one with a comparator (T0b, T0r): operands that
encode are accepted with their frame in `wbuf`; operands that do not are refused with their error, and no Transport call
is made (rules R33, R144, R221, R222, R224, R225). That an accepted request writes every latch of rules R29 and R33,
`lastfail` among them, although T0b does not list them all, and a refused one none, is DEDUCED (log entry 12). -/
def Obligations.XferWrAndWrvAreAcceptedOrRefused : Prop :=
  ∀ m e, (m = Mode.wr ∧ e ∈ plainWrites ∨ m = Mode.wrv ∧ e ∈ verifiedWrites) →
    ∀ (s : State) (wlen : Nat), e.2.2.1.wlen = some wlen →
      (∀ f, encFrame defaults e.2.2.1 wlen e.2.1 s.opArgs = .ok f →
        exec e.1 s = .next
          { s with st := .wrTry, mode := m, phase := .write, n := s.opN, cmdr := e.2.2.2, nvr := e.2.1,
                   argr := s.opArgs, tries := 0, lastfail := .comm, wbuf := f, wlen := BitVec.ofNat 6 (wlen + 1) }) ∧
      (∀ k, encFrame defaults e.2.2.1 wlen e.2.1 s.opArgs = .error k → exec e.1 s = .next (refusedDone k s))

/-- `XFER.RMW` of every command with a comparator (T0c, T0r): a non-empty set of operands that convert is accepted for the
pre-read; no operand at all is `BadArgument`, and an operand that does not convert is its error, without a Transport call
(rules R33, R144, R221, R222, R226). That an accepted request writes every latch of rules R29 and R33 and a refused one none
is DEDUCED (log entry 12). -/
def Obligations.XferRmwIsAcceptedOrRefused : Prop :=
  ∀ e ∈ modifies, ∀ s : State,
    (∀ fs, s.opArgs ≠ [] → collect defaults e.2.2.1.layout s.opArgs false = .ok fs →
      exec e.1 s = .next
        { s with st := .rdTry, mode := .rmw, phase := .pre, n := s.opN, cmdr := e.2.2.2, nvr := e.2.1, argr := s.opArgs,
                 tries := 0, lastfail := .comm }) ∧
    (s.opArgs = [] → exec e.1 s = .next (refusedDone .badArgument s)) ∧
    (∀ k, s.opArgs ≠ [] → collect defaults e.2.2.1.layout s.opArgs false = .error k →
      exec e.1 s = .next (refusedDone k s))

/-- A request starts from fresh state: its response, if single-step, and the latches and the frame it starts with, if a
transfer, depend on its operands only, and for `CS.ABSORB`, and for no other request, on `acc` (rules R21, R33). -/
def Obligations.RequestDependsOnItsOperandsOnly : Prop :=
  ∀ (i : Instr) (s u s' u' : State),
    s.opN = u.opN → s.opArgs = u.opArgs → s.opBytes = u.opBytes → ((∃ imm, i = .csAbsorb imm) → s.acc = u.acc) →
    exec i s = .next s' → exec i u = .next u' →
      (IsXfer i →
        s'.st = u'.st ∧ (s'.st = .done → s'.res = u'.res) ∧
        (s'.st ≠ .done →
          s'.mode = u'.mode ∧ s'.phase = u'.phase ∧ s'.n = u'.n ∧ s'.cmdr = u'.cmdr ∧ s'.nvr = u'.nvr ∧
          s'.argr = u'.argr ∧ s'.tries = u'.tries ∧ s'.lastfail = u'.lastfail ∧
          (s'.phase = .write → s'.wbuf = u'.wbuf ∧ s'.wlen = u'.wlen))) ∧
      (¬ IsXfer i → s'.res = u'.res ∧ (s'.res = .noError → s'.rval = u'.rval ∧ s'.rnv = u'.rnv)) ∧
      ((i = .csInit ∨ ∃ imm, i = .csAbsorb imm) → s'.acc = u'.acc)

/-! ## The verifier: transitions of rule R221 -/

/-- T1 and T4: when `tries` = `n` the phase gives up, a read with `DataCorrupted` after a checksum mismatch and
`CommunicationError` otherwise, a write with `CommunicationError`; no Transport call is made and nothing but `res` and
`st` changes (rules R221, R229, R232). -/
def Obligations.ExhaustedPhaseGivesUp : Prop :=
  ∀ s : State, Quiet s → s.tries = s.n →
    (s.st = .rdTry →
      step s = .next (refusedDone (if s.lastfail = .corrupt then .dataCorrupted else .communicationError) s)) ∧
    (s.st = .wrTry → step s = .next (refusedDone .communicationError s))

/-- T2a and T2b: an `IoError`, an answer of the wrong length, or a bad checksum is one failed attempt of its kind; a
corrupt frame is kept in `rbuf`; the call is recorded and the script moves on (rules R52, R54, R221, R228). -/
def Obligations.FailedReadAttempt : Prop :=
  ∀ (s : State) (row : CmdRow) (rlen : Nat) (a : Option Bytes),
    Quiet s → s.st = .rdTry → s.tries < s.n → rowOf cmdtab s.cmdr = some row → row.rlen = some rlen →
    readAnswer defaults s.cmdr (rlen + 1) s = some a →
      ((∀ f, a = some f → f.length ≠ rlen + 1) →
        step s = .next
          { s with st := .rdWait, tries := s.tries + 1, lastfail := .comm, dev := devBefore defaults s, script := s.script.tail,
                   trace := .read s.cfgBus s.cfgAddr s.cmdr (rlen + 1) :: s.trace }) ∧
      (∀ f, a = some f → f.length = rlen + 1 → verifyFrame f = false →
        step s = .next
          { s with st := .rdWait, tries := s.tries + 1, lastfail := .corrupt, rbuf := f,
                   rlen := BitVec.ofNat 6 (rlen + 1), dev := devBefore defaults s, script := s.script.tail,
                   trace := .read s.cfgBus s.cfgAddr s.cmdr (rlen + 1) :: s.trace })

/-- T2c: a clean frame ends `XFER.RD` with the response that `DEC` of the same command gives for that frame (rules R180,
R221, R230). -/
def Obligations.CleanReadAnswersAsDec : Prop :=
  ∀ d ∈ decs, ∀ (s u : State) (f : Bytes),
    Quiet s → s.st = .rdTry → s.mode = .rd → s.tries < s.n → rowOf cmdtab s.cmdr = some d.2 →
    d.2.rlen = some (f.length - 1) → verifyFrame f = true → readAnswer defaults s.cmdr f.length s = some (some f) →
    exec d.1 { s with opBytes := f } = .next u →
      step s = .next
        { s with st := .done, tries := s.tries + 1, rbuf := f, rlen := BitVec.ofNat 6 f.length, res := u.res,
                 rval := u.rval, rnv := u.rnv, dev := devBefore defaults s, script := s.script.tail,
                 trace := .read s.cfgBus s.cfgAddr s.cmdr f.length :: s.trace }

/-- T2d: a clean pre-read of `XFER.RMW` is merged and the write phase starts with no attempt made (rules R221, R237). -/
def Obligations.CleanPreReadIsMerged : Prop :=
  ∀ (s : State) (row : CmdRow) (rlen : Nat) (f : Bytes) (fs : List Field),
    Quiet s → s.st = .rdTry → s.mode = .rmw → s.phase = .pre → s.tries < s.n → rowOf cmdtab s.cmdr = some row →
    row.rlen = some rlen → f.length = rlen + 1 → verifyFrame f = true →
    readAnswer defaults s.cmdr (rlen + 1) s = some (some f) → collect defaults row.layout s.argr false = .ok fs →
      step s = .next
        { s with st := .wrTry, phase := .write, tries := 0, rbuf := f, rlen := BitVec.ofNat 6 (rlen + 1),
                 wbuf := appendCk (insNv row s.nvr (fs.foldl insField (f.take rlen))),
                 wlen := BitVec.ofNat 6 (rlen + 1), dev := devBefore defaults s, script := s.script.tail,
                 trace := .read s.cfgBus s.cfgAddr s.cmdr (rlen + 1) :: s.trace }

/-- The merge keeps every payload bit of the base that no named group owns, bit 7 of byte 0 apart where the row takes
`nv`, and that bit is then the `nv` flag, for any row of any table, whatever its layout (rules R6, R87, R88, R142, R237). -/
def Obligations.MergeKeepsUnnamedBits : Prop :=
  ∀ (P : Params) (row : CmdRow) (base g : Bytes) (nv : Bool) (args : Args) (fs : List Field),
    collect P row.layout args false = .ok fs → mergeFrame P row base nv args = .ok g →
      g.length = base.length + 1 ∧ verifyFrame g = true ∧
      (∀ b < 8 * base.length, (∀ f ∈ fs, ¬ (f.pos ≤ b ∧ b < f.pos + f.w)) → (row.nv = true → b ≠ 7) →
        payloadBit g b = payloadBit base b) ∧
      (row.nv = true → base ≠ [] → payloadBit g 7 = nv)

/-- T2e: a clean read-back goes to the compare step (rules R221, R234). -/
def Obligations.CleanReadBackIsCompared : Prop :=
  ∀ (s : State) (row : CmdRow) (rlen : Nat) (f : Bytes),
    Quiet s → s.st = .rdTry → (s.mode = .wrv ∨ s.mode = .rmw) → s.phase = .back → s.tries < s.n →
    rowOf cmdtab s.cmdr = some row → row.rlen = some rlen → f.length = rlen + 1 → verifyFrame f = true →
    readAnswer defaults s.cmdr (rlen + 1) s = some (some f) →
      step s = .next
        { s with st := .cmp, tries := s.tries + 1, rbuf := f, rlen := BitVec.ofNat 6 (rlen + 1), dev := devBefore defaults s,
                 script := s.script.tail, trace := .read s.cfgBus s.cfgAddr s.cmdr (rlen + 1) :: s.trace }

/-- T5a, T5b and T5c: a write attempt passes `wbuf[0 .. wlen-1]`; `IoError` is a failed attempt; `ok` ends `XFER.WR` and
starts the read-back of a verified write with a fresh budget (rules R221, R231, R234).
That `rnv` is none afterwards is read from rule R30 (log entry 11). -/
def Obligations.WriteAttempt : Prop :=
  ∀ (s : State) (ok : Bool) (d : Dev),
    Quiet s → s.st = .wrTry → s.tries < s.n → writeAnswer defaults s.cmdr (s.wbuf.take s.wlen.toNat) s = some (ok, d) →
      (ok = false → step s = .next
        { s with st := .wrWait, tries := s.tries + 1, dev := d, script := s.script.tail,
                 trace := .write s.cfgBus s.cfgAddr s.cmdr (s.wbuf.take s.wlen.toNat) :: s.trace }) ∧
      (ok = true → s.mode = .wr → step s = .next
        { answered .unit none s with
            st := .done, tries := s.tries + 1, dev := d, script := s.script.tail,
            trace := .write s.cfgBus s.cfgAddr s.cmdr (s.wbuf.take s.wlen.toNat) :: s.trace }) ∧
      (ok = true → s.mode = .wrv ∨ s.mode = .rmw → step s = .next
        { s with st := .rdTry, phase := .back, tries := 0, lastfail := .comm, elapsed := s.elapsed + Config.settle,
                 dev := d, script := s.script.tail,
                 trace := .write s.cfgBus s.cfgAddr s.cmdr (s.wbuf.take s.wlen.toNat) :: s.trace })

/-- T3 and T6: a wait changes no register and goes back to its attempt; the delay is `BACKOFF(tries)`, plus `COOLDOWN`
after an `IoError` (rules R221, R233).
The field `elapsed` is the model's own (log entry 8). -/
def Obligations.WaitsChangeNoRegister : Prop :=
  ∀ s : State, Quiet s →
    (s.st = .rdWait → step s = .next
      { s with st := .rdTry, elapsed := s.elapsed + (backoff s.tries.toNat +
                 (if s.lastfail = .comm then Config.cooldown else 0)) }) ∧
    (s.st = .wrWait → step s = .next
      { s with st := .wrTry, elapsed := s.elapsed + (backoff s.tries.toNat + Config.cooldown) })

/-- T7: the comparator decides between `NoError` and `WriteFailed`, on the payloads without their checksums; no Transport
call is made (rules R221, R235, R240).
That `rnv` is none afterwards is read from rule R30 (log entry 11). -/
def Obligations.CompareDecides : Prop :=
  ∀ (s : State) (row : CmdRow) (c : Comparator) (len : Nat),
    Quiet s → s.st = .cmp → rowOf cmdtab s.cmdr = some row → row.verify = some c → row.wlen = some len →
    row.rlen = some len →
      step s = .next
        (if verifyMatch defaults Config.clockTol c (s.wbuf.take len) (s.rbuf.take len) then
          { answered .unit none s with st := .done }
        else { s with st := .done, res := .writeFailed, rval := .unit })

/-- `VMASK(m)` holds exactly when no bit under the mask differs, and is equality of the payloads under the mask of all
ones (rule R241). -/
def Obligations.MaskedComparator : Prop :=
  ∀ m w r : Bytes, w.length = r.length → m.length = w.length →
    (verifyMatch defaults Config.clockTol (.vmask m) w r = true ↔
      ∀ b < 8 * w.length, payloadBit m b = true → payloadBit w b = payloadBit r b) ∧
    (m = List.replicate w.length 0xFF → (verifyMatch defaults Config.clockTol (.vmask m) w r = true ↔ w = r))

/-- `TIME_FWD` on encoded times: with the same date, weekday and hour mode it holds exactly when the read-back is 0 to
`CLOCK_TOL` seconds ahead; a payload that does not unpack never matches (rules R242, R243). That 12 AM is hour 0 and 12 PM
is hour 12 is PRESUMED (log entry 9). -/
def Obligations.ClockComparator : Prop :=
  ∀ (w r : Bytes) (tol : Nat),
    (unpackTime defaults w = none ∨ unpackTime defaults r = none → verifyMatch defaults tol .timeFwd w r = false) ∧
    (∀ a b : TimeVal, unpackTime defaults w = some a → unpackTime defaults r = some b →
      (verifyMatch defaults tol .timeFwd w r = true ↔
        a.weekday = b.weekday ∧ a.day = b.day ∧ a.month = b.month ∧ a.year = b.year ∧
        ∃ ha hb : Nat,
          ((a.hour = .h24 ha ∧ b.hour = .h24 hb) ∨
           ((∃ h, (a.hour = .am h ∧ ha = h % 12) ∨ (a.hour = .pm h ∧ ha = h % 12 + 12)) ∧
            (∃ h, (b.hour = .am h ∧ hb = h % 12) ∨ (b.hour = .pm h ∧ hb = h % 12 + 12)))) ∧
          ha * 3600 + a.minute * 60 + a.second ≤ hb * 3600 + b.minute * 60 + b.second ∧
          hb * 3600 + b.minute * 60 + b.second ≤ ha * 3600 + a.minute * 60 + a.second + tol))

/-- Where the engine does not move: `IDLE` without a request, `DONE` until the requester takes the response, a `TRY` state
whose Transport call never returns; and taking the response changes nothing but `st` (rules R221 T8, R236, R273, R312).
That a call that never returns leaves every field as it was is log entry 13. -/
def Obligations.EngineWaitsAndResponseIsTaken : Prop :=
  ∀ s : State, Quiet s →
    (s.st = .idle → s.reqs = [] → step s = .next s) ∧
    (s.st = .done → step s = .next (if s.take then { s with st := .idle } else s)) ∧
    (∀ row rlen, (s.st = .wrTry ∨ (s.st = .rdTry ∧ rowOf cmdtab s.cmdr = some row ∧ row.rlen = some rlen)) →
      s.tries < s.n → (nextOverride s).rule = .never → step s = .next s)

/-! ## Whole-machine rules -/

/-- A write attempt is never made after a compare step: from `CMP` a step goes to `DONE` (or, for a reset or a
configuration write, stays or goes to `IDLE`), and from `DONE` to `DONE` or `IDLE`; `WriteFailed` is final (rule R244). -/
def Obligations.WriteFailedIsFinal : Prop :=
  ∀ s t : State, step s = .next t →
    (s.st = .cmp → t.st = .done ∨ t.st = .cmp ∧ s.cfgPort ≠ none ∨ t.st = .idle ∧ s.rst = true) ∧
    (s.st = .done → t.st = .done ∨ t.st = .idle) ∧
    (t.st = .wrTry → s.st = .wrTry ∨ s.st = .wrWait ∨ s.st = .idle ∨ s.st = .rdTry ∧ s.mode = .rmw ∧ s.phase = .pre)

/-- `NoError` of a verified write is answered from the compare step only, with a clean frame in `rbuf` whose payload
matches the intended payload under the row's comparator (rule R245). -/
def Obligations.NoErrorNeedsACleanMatch : Prop :=
  ∀ s t : State, Inv s → step s = .next t → (s.mode = .wrv ∨ s.mode = .rmw) → s.st ≠ .idle → s.st ≠ .done →
    t.st = .done → t.res = .noError →
      s.st = .cmp ∧ verifyFrame s.rbuf = true ∧
      ∃ row c len, rowOf cmdtab s.cmdr = some row ∧ row.verify = some c ∧ row.wlen = some len ∧ row.rlen = some len ∧
        s.rbuf.length = len + 1 ∧
        verifyMatch defaults Config.clockTol c (s.wbuf.take len) (s.rbuf.take len) = true

/-- No cancellation: without a reset no step leads from a `TRY`, `WAIT` or `CMP` state to `IDLE` (rule R246). -/
def Obligations.NoCancellation : Prop :=
  ∀ s t : State, step s = .next t → s.rst = false → s.st ≠ .idle → s.st ≠ .done → t.st ≠ .idle

/-- A step makes at most one Transport call, in a `TRY` state with attempts left, to the configured device and the
effective command code; the calls made before stand (rules R31, R58, R61). -/
def Obligations.AtMostOneCallPerStep : Prop :=
  ∀ s t : State, step s = .next t →
    t.trace = s.trace ∨
    (s.st = .rdTry ∧ s.tries < s.n ∧ ∃ len, t.trace = .read s.cfgBus s.cfgAddr s.cmdr len :: s.trace) ∨
    (s.st = .wrTry ∧ s.tries < s.n ∧
      t.trace = .write s.cfgBus s.cfgAddr s.cmdr (s.wbuf.take s.wlen.toNat) :: s.trace)

/-- `CFG.BUS` and `CFG.ADDR` change only by reset or by a write on the configuration port in `IDLE`; a write in another
state is ignored (rules R31, R305).
That a write outside `IDLE` is dropped is the treatment of 93_implementation_defined.md U5 (log entry 3). -/
def Obligations.ConfigurationPort : Prop :=
  ∀ s : State,
    (∀ w, s.rst = false → s.cfgPort = some w → s.st = .idle → step s = .next
      (match w.reg with
       | .bus => { s with cfgBus := w.val, cfgPort := none }
       | .addr => { s with cfgAddr := w.val, cfgPort := none })) ∧
    (∀ w, s.rst = false → s.cfgPort = some w → s.st ≠ .idle → step s = .next { s with cfgPort := none }) ∧
    (∀ t, step s = .next t → s.rst = false → s.cfgPort = none → t.cfgBus = s.cfgBus ∧ t.cfgAddr = s.cfgAddr)

/-- No request produces `InvalidUsbCurrentLimit` or `InvalidTripPoint` (rule R263). -/
def Obligations.UsbAndTripKindsAreNeverProduced : Prop :=
  ∀ s t : State, step s = .next t → (t.res = .invalidUsbCurrentLimit ∨ t.res = .invalidTripPoint) → t.res = s.res

/-! ## Whole requests -/

/-- Bounded retry of a read: a Transport that fails exactly N times and then answers a clean frame gives the response
of that frame's decode if N is less than `n`, after N + 1 calls, and `CommunicationError` otherwise, after `n` calls (rule
R227). -/
def Obligations.BoundedRetryOfARead : Prop :=
  ∀ d ∈ decs, ∀ (s u : State) (f : Bytes) (k : Nat),
    Quiet s → s.st = .rdTry → s.mode = .rd → s.phase = .pre → s.tries = 0 → s.lastfail = .comm →
    rowOf cmdtab s.cmdr = some d.2 → d.2.rlen = some (f.length - 1) → verifyFrame f = true →
    s.script = failsThen k (.reply f) → exec d.1 { s with opBytes := f } = .next u →
      (k < s.n.toNat → ∃ t, Host.Core.run Sys2Proof.core (2 * k + 1) s = .next t ∧ t.st = .done ∧ t.res = u.res ∧
        t.rval = u.rval ∧ t.rnv = u.rnv ∧ t.trace.length = s.trace.length + k + 1) ∧
      (s.n.toNat ≤ k → ∃ t, Host.Core.run Sys2Proof.core (2 * s.n.toNat + 1) s = .next t ∧ t.st = .done ∧
        t.res = .communicationError ∧ t.trace.length = s.trace.length + s.n.toNat)

/-- Bounded retry of an unverified write: a Transport that fails exactly N times and then answers `ok` gives `NoError` if N
is less than `n` and `CommunicationError` otherwise; every attempt passes the same frame (rules R227, R231, R232). -/
def Obligations.BoundedRetryOfAWrite : Prop :=
  ∀ (s : State) (f : Bytes) (k : Nat),
    Quiet s → s.st = .wrTry → s.mode = .wr → s.tries = 0 → s.script = failsThen k (.reply f) →
      (k < s.n.toNat → ∃ t, Host.Core.run Sys2Proof.core (2 * k + 1) s = .next t ∧ t.st = .done ∧ t.res = .noError ∧
        t.rval = .unit ∧
        t.trace = List.replicate (k + 1) (.write s.cfgBus s.cfgAddr s.cmdr (s.wbuf.take s.wlen.toNat)) ++ s.trace) ∧
      (s.n.toNat ≤ k → ∃ t, Host.Core.run Sys2Proof.core (2 * s.n.toNat + 1) s = .next t ∧ t.st = .done ∧
        t.res = .communicationError ∧
        t.trace = List.replicate s.n.toNat (.write s.cfgBus s.cfgAddr s.cmdr (s.wbuf.take s.wlen.toNat)) ++ s.trace)

/-- Termination: if every Transport call returns, a transfer request reaches `DONE` after at most `n`, 2·`n` or 3·`n` calls
by its operation, and after a number of steps bounded by a linear function of `n` (rule R247). -/
def Obligations.TransferTerminates : Prop :=
  ∀ (i : Instr) (s0 s : State), IsXfer i → Inv s0 → Quiet s0 → AllReturn s0 → exec i s0 = .next s →
    ∃ k t, k ≤ 6 * s0.opN.toNat + 3 ∧ Host.Core.run Sys2Proof.core k s = .next t ∧ t.st = .done ∧
      t.trace.length ≤ s.trace.length + (if s.st = .done then 0 else maxCalls s.mode s.n.toNat)

/-! ## The ideal device -/

/-- The ideal device returns what was stored: after a write call it answers, a read call of the same register for the
stored length returns the frame, and registers other than the one written read as before (rule R64). -/
def Obligations.IdealDeviceStoresFrames : Prop :=
  ∀ (P : Params) (s s1 : State) (reg : Byte) (f : Bytes) (rest : List Override),
    devWf s.dev = true → f ≠ [] →
    s.script = { before := [], rule := .ideal } :: { before := [], rule := .ideal } :: rest →
    memWrite P reg f s = some (true, s1) →
      (∃ s2, memRead P reg f.length s1 = some (some f, s2)) ∧
      (∀ (other : Byte) (len : Nat), other ≠ reg →
        readAnswer P other len s1 = some (idealRead s.dev other len)) ∧
      devWf s1.dev = true

/-! ## Reset, the invariant and safety -/

/-- What reset leaves in the registers whose reset value rule R35 states (rules R35, R300). -/
def Obligations.ResetValues : Prop :=
  State.reset.st.code = 0 ∧ State.reset.mode.code = 0 ∧ State.reset.phase.code = 0 ∧ State.reset.n = 0 ∧
  State.reset.tries = 0 ∧ State.reset.lastfail.code = 0 ∧ State.reset.acc = 0xFF ∧ State.reset.wlen = 0 ∧
  State.reset.rlen = 0 ∧ State.reset.res.code = 0 ∧ State.reset.rval = .unit ∧ State.reset.rnv = none ∧
  busy State.reset = false ∧ doneOut State.reset = false

/-- A reset in any state abandons the request: the registers take the values of rule R35, no Transport call is made, the
device and the calls already made stand, and the requests at the port wait (rules R35, R300, R301).
That the reset input is a pulse, cleared by the step that serves it, and that the other ports, the device and the script
stand, is the model's choice (log entries 3 and 13). -/
def Obligations.ResetAbandonsTheRequest : Prop :=
  ∀ s : State, s.rst = true →
    ∃ t, step s = .next t ∧ t.st = .idle ∧ t.mode = .rd ∧ t.phase = .pre ∧ t.n = 0 ∧ t.tries = 0 ∧ t.lastfail = .comm ∧
      t.acc = 0xFF ∧ t.wlen = 0 ∧ t.rlen = 0 ∧ t.res = .noError ∧ t.rval = .unit ∧ t.rnv = none ∧ t.rst = false ∧
      t.trace = s.trace ∧ t.dev = s.dev ∧ t.script = s.script ∧ t.reqs = s.reqs ∧ t.opN = s.opN ∧ t.opArgs = s.opArgs ∧
      t.opBytes = s.opBytes ∧ t.take = s.take ∧ t.cfgPort = s.cfgPort ∧ t.elapsed = s.elapsed

/-- The invariant holds at reset, for any parameters of the engine (rules R6, R22, R23, R24, R25, R27). -/
def Obligations.InvariantHoldsAtReset : Prop := Inv State.reset ∧ ∀ P : Params, InvFor P (resetFor P)

/-- The invariant is kept by every step of the machine: `tries` never exceeds `n`, the buffers agree with their length
registers and hold at most `FRAME_MAX` bytes, the device map keeps its canonical form, and the latched request fits the
FSM state; and the engine keeps it with every admissible choice of the parameters (rules R6, R22, R23, R25, R27, R221). -/
def Obligations.EveryStepKeepsTheInvariant : Prop :=
  (∀ s t : State, Inv s → step s = .next t → Inv t) ∧
  ∀ P : Params, paramsWellFormed P = true → ∀ s t : State, InvFor P s → stepFor P s = .next t → InvFor P t

/-- No request leads to a state without a successor: from every state that meets the invariant the machine has a next
state, neither a fault nor a refusal, and so has the engine with every admissible choice of the parameters (rules R6, R247,
R268, R312). -/
def Obligations.InvariantStatesHaveASuccessor : Prop :=
  (∀ s : State, Inv s → Safe s) ∧
  ∀ P : Params, paramsWellFormed P = true → ∀ s : State, InvFor P s → ∃ t, stepFor P s = .next t
end

