-- ==== Sys2Proof/Laws/Bits.lean ====
section
/-! SUPPORT. The laws of the payload-bit primitives (rule R9): what a bit reads as after a field is inserted, and a
field read back after an insertion. -/

namespace Sys2Proof.Machine

/-! ## One bit -/

@[simp] theorem getLsbD_setByteBit (x : Byte) (k j : Nat) (v : Bool) (hk : k < 8) :
    (setByteBit x k v).getLsbD j = if j = k then v else x.getLsbD j := by
  unfold setByteBit
  by_cases hj : j = k
  · subst hj
    cases v <;> simp [hk]
  · cases v <;> simp [hj, Ne.symm hj]
    intro h
    exact BitVec.lt_of_getLsbD h

@[simp] theorem setPayloadBit_length (p : Bytes) (b : Nat) (v : Bool) : (setPayloadBit p b v).length = p.length := by
  simp [setPayloadBit]

theorem payloadBit_setPayloadBit (p : Bytes) (b c : Nat) (v : Bool) (hb : b < 8 * p.length) :
    payloadBit (setPayloadBit p b v) c = if c = b then v else payloadBit p c := by
  have hlen : b / 8 < p.length := by omega
  unfold payloadBit setPayloadBit
  by_cases hd : c / 8 = b / 8
  · rw [hd]
    have hget : (p.set (b / 8) (setByteBit (p.getD (b / 8) 0) (b % 8) v)).getD (b / 8) 0 =
        setByteBit (p.getD (b / 8) 0) (b % 8) v := by
      simp [List.getD, hlen]
    rw [hget, getLsbD_setByteBit _ _ _ _ (Nat.mod_lt _ (by decide))]
    by_cases hc : c = b
    · simp [hc]
    · have : ¬ c % 8 = b % 8 := by omega
      simp [hc, this]
  · have hc : c ≠ b := by rintro rfl; exact hd rfl
    have hget : (p.set (b / 8) (setByteBit (p.getD (b / 8) 0) (b % 8) v)).getD (c / 8) 0 = p.getD (c / 8) 0 := by
      simp [List.getD, Ne.symm hd]
    rw [hget]
    simp [hc]

/-! ## A field -/

@[simp] theorem insBits_length (p : Bytes) (pos w v : Nat) : (insBits p pos w v).length = p.length := by
  induction w with
  | zero => rfl
  | succ w ih => simp [insBits, ih]

/-- `ins` writes the field's bits and keeps every other payload bit (rule R9). -/
theorem payloadBit_insBits (p : Bytes) (pos w v c : Nat) (h : pos + w ≤ 8 * p.length) :
    payloadBit (insBits p pos w v) c =
      if pos ≤ c ∧ c < pos + w then v.testBit (c - pos) else payloadBit p c := by
  induction w with
  | zero =>
    rw [if_neg (by omega)]
    rfl
  | succ w ih =>
    have hw : pos + w < 8 * (insBits p pos w v).length := by simp; omega
    rw [insBits, payloadBit_setPayloadBit _ _ _ _ hw, ih (by omega)]
    by_cases hc : c = pos + w
    · subst hc; simp
    · rw [if_neg hc]
      by_cases hi : pos ≤ c ∧ c < pos + w
      · rw [if_pos hi, if_pos ⟨hi.1, by omega⟩]
      · rw [if_neg hi, if_neg (by omega)]

/-- A field of w bits has a value below 2^w (rule R9). -/
theorem extBits_lt (p : Bytes) (pos w : Nat) : extBits p pos w < 2 ^ w := by
  induction w with
  | zero => simp [extBits]
  | succ w ih =>
    have : (payloadBit p (pos + w)).toNat ≤ 1 := Bool.toNat_le _
    have : (payloadBit p (pos + w)).toNat * 2 ^ w ≤ 1 * 2 ^ w := Nat.mul_le_mul_right _ this
    rw [extBits, Nat.pow_succ]
    omega

/-- A field's value has the field's payload bits (rule R9). -/
theorem testBit_extBits (p : Bytes) (pos w j : Nat) :
    (extBits p pos w).testBit j = (decide (j < w) && payloadBit p (pos + j)) := by
  induction w generalizing j with
  | zero => simp [extBits]
  | succ w ih =>
    have hlt := extBits_lt p pos w
    rw [extBits]
    rcases Nat.lt_trichotomy j w with hj | rfl | hj
    · have hj' : j < w + 1 := by omega
      cases payloadBit p (pos + w)
      · simp [ih, hj, hj']
      · rw [Bool.toNat_true, Nat.one_mul, Nat.add_comm, Nat.testBit_two_pow_add_gt hj, ih]
        simp [hj, hj']
    · cases hb : payloadBit p (pos + j)
      · simp [ih]
      · rw [Bool.toNat_true, Nat.one_mul, Nat.add_comm, Nat.testBit_two_pow_add_eq, ih]
        simp
    · have hj' : ¬ j < w + 1 := by omega
      have hlt' := extBits_lt p pos (w + 1)
      rw [extBits] at hlt'
      have hle : 2 ^ (w + 1) ≤ 2 ^ j := Nat.pow_le_pow_right (by decide) (by omega)
      rw [Nat.testBit_lt_two_pow (Nat.lt_of_lt_of_le hlt' hle)]
      simp [hj']

/-- A field inserted reads back as the value inserted (rule R9). -/
theorem extBits_insBits_same (p : Bytes) (pos w v : Nat) (h : pos + w ≤ 8 * p.length) (hv : v < 2 ^ w) :
    extBits (insBits p pos w v) pos w = v := by
  apply Nat.eq_of_testBit_eq
  intro j
  rw [testBit_extBits]
  by_cases hj : j < w
  · simp [hj, payloadBit_insBits p pos w v (pos + j) h]
  · have hle : 2 ^ w ≤ 2 ^ j := Nat.pow_le_pow_right (by decide) (by omega)
    rw [Nat.testBit_lt_two_pow (Nat.lt_of_lt_of_le hv hle)]
    simp [hj]

/-- Two payloads with the same bits in a field have the same field value. -/
theorem extBits_congr (p q : Bytes) (pos w : Nat)
    (h : ∀ c, pos ≤ c → c < pos + w → payloadBit p c = payloadBit q c) : extBits p pos w = extBits q pos w := by
  induction w with
  | zero => rfl
  | succ w ih =>
    rw [extBits, extBits, ih (fun c h1 h2 => h c h1 (by omega)), h (pos + w) (by omega) (by omega)]

/-- A field that does not meet the field inserted keeps its value (rule R9). -/
theorem extBits_insBits_disjoint (p : Bytes) (pos w v pos' w' : Nat) (h : pos + w ≤ 8 * p.length)
    (hd : pos' + w' ≤ pos ∨ pos + w ≤ pos') : extBits (insBits p pos w v) pos' w' = extBits p pos' w' := by
  apply extBits_congr
  intro c h1 h2
  rw [payloadBit_insBits p pos w v c h, if_neg (by omega)]

/-- A one-bit field is its payload bit. -/
theorem extBits_one (p : Bytes) (pos : Nat) : extBits p pos 1 = (payloadBit p pos).toNat := by
  simp [extBits]

/-- Two adjacent fields read as one. -/
theorem extBits_add (p : Bytes) (pos a b : Nat) :
    extBits p pos (a + b) = extBits p pos a + extBits p (pos + a) b * 2 ^ a := by
  induction b with
  | zero => simp [extBits]
  | succ b ih =>
    rw [← Nat.add_assoc]
    simp only [extBits]
    rw [ih, ← Nat.add_assoc pos a b, Nat.pow_add, Nat.add_mul, Nat.mul_assoc, Nat.mul_comm (2 ^ b), Nat.add_assoc]

/-- A field that lies in one byte is a shift and a mask of that byte. -/
theorem extBits_byte (p : Bytes) (pos w : Nat) (h : pos % 8 + w ≤ 8) :
    extBits p pos w = (p.getD (pos / 8) 0).toNat / 2 ^ (pos % 8) % 2 ^ w := by
  apply Nat.eq_of_testBit_eq
  intro j
  rw [testBit_extBits, Nat.testBit_mod_two_pow, Nat.testBit_div_two_pow]
  by_cases hj : j < w
  · have h1 : (pos + j) / 8 = pos / 8 := by omega
    have h2 : (pos + j) % 8 = j + pos % 8 := by omega
    simp [hj, payloadBit, h1, h2, BitVec.testBit_toNat]
  · simp [hj]

/-- Payloads of one length with the same bits are equal. -/
theorem payload_ext (p q : Bytes) (hl : p.length = q.length)
    (h : ∀ b < 8 * p.length, payloadBit p b = payloadBit q b) : p = q := by
  apply List.ext_getElem hl
  intro k hp hq
  apply BitVec.eq_of_getLsbD_eq
  intro i hi
  have hb := h (8 * k + i) (by omega)
  have h1 : (8 * k + i) / 8 = k := by omega
  have h2 : (8 * k + i) % 8 = i := by omega
  simpa [payloadBit, h1, h2, List.getD_eq_getElem?_getD, List.getElem?_eq_getElem hp, List.getElem?_eq_getElem hq] using hb

/-! ## Lengths -/

@[simp] theorem foldl_insField_length (p : Bytes) (fs : List Field) : (fs.foldl insField p).length = p.length := by
  induction fs generalizing p with
  | nil => rfl
  | cons f fs ih => rw [List.foldl_cons, ih]; exact insBits_length ..

@[simp] theorem appendCk_length (p : Bytes) : (appendCk p).length = p.length + 1 := by
  simp [appendCk]

@[simp] theorem zeros_length (n : Nat) : (zeros n).length = n := by
  simp [zeros]

theorem appendCk_dropLast (p : Bytes) : (appendCk p).dropLast = p := by
  simp [appendCk]

end Sys2Proof.Machine
end

