-- ==== Sys2Proof/Laws/Device.lean ====
section
/-! SUPPORT. The laws of the device map (rule R64): a register written reads back, every other register is left alone,
and every operation keeps the canonical form. -/

namespace Sys2Proof.Machine

/-! ## Read after write -/

theorem devGet_devInsert (d : Dev) (c k : Nat) (f : Bytes) (h : devWf d = true) :
    devGet (devInsert c f d) k = if k = c then some f else devGet d k := by
  induction d with
  | nil => simp [devInsert, devGet, eq_comm]
  | cons e rest ih =>
    obtain ⟨a, g⟩ := e
    have hrest : devWf rest = true := by
      cases rest with
      | nil => rfl
      | cons e' r' => obtain ⟨b, g'⟩ := e'; simp [devWf] at h; exact h.2
    unfold devInsert
    split
    · simp [devGet, eq_comm]
    · split
      · rename_i hca
        subst hca
        by_cases hk : k = c
        · subst hk; simp [devGet]
        · simp [devGet, hk, Ne.symm hk]
      · rename_i hca
        by_cases hk : k = c
        · subst hk
          simp [devGet, ih hrest, Ne.symm hca]
        · simp [devGet, ih hrest, hk]

theorem devGet_devErase (d : Dev) (c k : Nat) : devGet (devErase d c) k = if k = c then none else devGet d k := by
  induction d with
  | nil => simp [devErase, devGet]
  | cons e rest ih =>
    obtain ⟨a, g⟩ := e
    unfold devErase at ih ⊢
    by_cases hac : a = c
    · subst hac
      by_cases hk : k = a
      · subst hk; simpa using ih
      · simp [ih, devGet, hk, Ne.symm hk]
    · by_cases hk : k = c
      · subst hk; simp [hac, devGet, ih]
      · simp [hac, devGet, ih, hk]

/-- A write of the device map: the register written holds the frame (nothing, if it is empty), every other register is
left alone (rule R64). -/
theorem devGet_devSet (d : Dev) (c k : Nat) (f : Bytes) (h : devWf d = true) :
    devGet (devSet d c f) k = if k = c then (if f = [] then none else some f) else devGet d k := by
  unfold devSet
  split
  · exact devGet_devErase d c k
  · exact devGet_devInsert d c k f h

/-! ## The canonical form -/

/-- The canonical form, one entry at a time. -/
theorem devWf_cons (a : Nat) (f : Bytes) (rest : Dev) :
    devWf ((a, f) :: rest) = true ↔
      a < 256 ∧ f ≠ [] ∧ devWf rest = true ∧ ∀ e ∈ rest, a < e.1 := by
  induction rest generalizing a f with
  | nil => simp [devWf]
  | cons e rest ih =>
    obtain ⟨b, g⟩ := e
    have hb := ih b g
    simp only [devWf, Bool.and_eq_true, decide_eq_true_eq, Bool.not_eq_true', List.isEmpty_eq_false_iff]
    constructor
    · rintro ⟨⟨hab, hf⟩, hw⟩
      obtain ⟨hb256, -, -, hall⟩ := hb.mp hw
      refine ⟨by omega, hf, hw, ?_⟩
      intro e he
      rcases List.mem_cons.mp he with rfl | he
      · exact hab
      · exact Nat.lt_trans hab (hall e he)
    · rintro ⟨-, hf, hw, hall⟩
      exact ⟨⟨hall (b, g) (by simp), hf⟩, hw⟩

theorem mem_devInsert (d : Dev) (c : Nat) (f : Bytes) (e : Nat × Bytes) (he : e ∈ devInsert c f d) :
    e = (c, f) ∨ e ∈ d := by
  induction d with
  | nil => simpa [devInsert] using he
  | cons x rest ih =>
    obtain ⟨a, g⟩ := x
    unfold devInsert at he
    split at he
    · simpa using he
    · split at he
      · rcases List.mem_cons.mp he with h | h
        · exact .inl h
        · exact .inr (List.mem_cons_of_mem _ h)
      · rcases List.mem_cons.mp he with h | h
        · exact .inr (by simp [h])
        · rcases ih h with h | h
          · exact .inl h
          · exact .inr (List.mem_cons_of_mem _ h)

theorem devInsert_wf (d : Dev) (c : Nat) (f : Bytes) (hc : c < 256) (hf : f ≠ []) (h : devWf d = true) :
    devWf (devInsert c f d) = true := by
  induction d with
  | nil => simp [devInsert, devWf, hc, hf]
  | cons x rest ih =>
    obtain ⟨a, g⟩ := x
    obtain ⟨ha, hg, hr, hall⟩ := (devWf_cons a g rest).mp h
    unfold devInsert
    split
    · rename_i hlt
      refine (devWf_cons _ _ _).mpr ⟨hc, hf, h, ?_⟩
      intro e he
      rcases List.mem_cons.mp he with rfl | he
      · exact hlt
      · exact Nat.lt_trans hlt (hall e he)
    · split
      · rename_i hca
        subst hca
        exact (devWf_cons _ _ _).mpr ⟨hc, hf, hr, hall⟩
      · refine (devWf_cons _ _ _).mpr ⟨ha, hg, ih hr, ?_⟩
        intro e he
        rcases mem_devInsert rest c f e he with rfl | he
        · show a < c
          omega
        · exact hall e he

theorem devErase_wf (d : Dev) (c : Nat) (h : devWf d = true) : devWf (devErase d c) = true := by
  induction d with
  | nil => rfl
  | cons x rest ih =>
    obtain ⟨a, g⟩ := x
    obtain ⟨ha, hg, hr, hall⟩ := (devWf_cons a g rest).mp h
    unfold devErase at ih ⊢
    rw [List.filter_cons]
    split
    · refine (devWf_cons _ _ _).mpr ⟨ha, hg, ih hr, ?_⟩
      intro e he
      exact hall e ((List.mem_filter.mp he).1)
    · exact ih hr

/-- A write keeps the canonical form. -/
theorem devSet_wf (d : Dev) (c : Nat) (f : Bytes) (hc : c < 256) (h : devWf d = true) : devWf (devSet d c f) = true := by
  unfold devSet
  split
  · exact devErase_wf d c h
  · rename_i hf
    exact devInsert_wf d c f hc hf h

/-- A tick keeps the canonical form. -/
theorem tickDevice_wf (P : Params) (k : Nat) (d : Dev) (h : devWf d = true) : devWf (tickDevice P k d) = true := by
  unfold tickDevice
  split
  · exact h
  · rename_i row _
    split
    · exact h
    · split
      · exact devSet_wf d _ _ row.code.isLt h
      · exact h

/-- A change the device makes by itself keeps the canonical form. -/
theorem devChange_wf (P : Params) (d : Dev) (x : DevChange) (h : devWf d = true) : devWf (devChange P d x) = true := by
  cases x with
  | set c f => exact devSet_wf d c.toNat f c.isLt h
  | tick k =>
    exact tickDevice_wf P k d h

theorem devBefore_wf (P : Params) (s : State) (h : devWf s.dev = true) : devWf (devBefore P s) = true := by
  have : ∀ (xs : List DevChange) (d : Dev), devWf d = true → devWf (xs.foldl (devChange P) d) = true := by
    intro xs
    induction xs with
    | nil => exact fun _ h => h
    | cons x xs ih => exact fun d hd => ih _ (devChange_wf P d x hd)
  exact this _ _ h

/-- The device after a write call is in the canonical form. -/
theorem writeAnswer_wf (P : Params) (reg : Byte) (f : Bytes) (s : State) (ok : Bool) (d : Dev) (h : devWf s.dev = true)
    (ha : writeAnswer P reg f s = some (ok, d)) : devWf d = true := by
  have hb := devBefore_wf P s h
  have hs := devSet_wf (devBefore P s) reg.toNat f reg.isLt hb
  unfold writeAnswer at ha
  split at ha <;> first | cases ha; done | (injection ha with ha; injection ha with _ ha; subst ha; assumption)

/-- The reset state's device map is in the canonical form. -/
theorem reset_dev_wf : devWf State.reset.dev = true := rfl

end Sys2Proof.Machine
end

