-- ==== Sys2Proof/Laws/State.lean ====
section
/-! SUPPORT. One lemma per field per update: no later proof unfolds a record update. -/

namespace Sys2Proof.Machine

section
variable (s : State)

/-! ### setRes -/

@[simp] theorem setRes_st (k : ErrorKind) : (setRes k s).st = s.st := rfl
@[simp] theorem setRes_mode (k : ErrorKind) : (setRes k s).mode = s.mode := rfl
@[simp] theorem setRes_phase (k : ErrorKind) : (setRes k s).phase = s.phase := rfl
@[simp] theorem setRes_n (k : ErrorKind) : (setRes k s).n = s.n := rfl
@[simp] theorem setRes_tries (k : ErrorKind) : (setRes k s).tries = s.tries := rfl
@[simp] theorem setRes_lastfail (k : ErrorKind) : (setRes k s).lastfail = s.lastfail := rfl
@[simp] theorem setRes_acc (k : ErrorKind) : (setRes k s).acc = s.acc := rfl
@[simp] theorem setRes_wbuf (k : ErrorKind) : (setRes k s).wbuf = s.wbuf := rfl
@[simp] theorem setRes_wlen (k : ErrorKind) : (setRes k s).wlen = s.wlen := rfl
@[simp] theorem setRes_rbuf (k : ErrorKind) : (setRes k s).rbuf = s.rbuf := rfl
@[simp] theorem setRes_rlen (k : ErrorKind) : (setRes k s).rlen = s.rlen := rfl
@[simp] theorem setRes_cmdr (k : ErrorKind) : (setRes k s).cmdr = s.cmdr := rfl
@[simp] theorem setRes_nvr (k : ErrorKind) : (setRes k s).nvr = s.nvr := rfl
@[simp] theorem setRes_argr (k : ErrorKind) : (setRes k s).argr = s.argr := rfl
@[simp] theorem setRes_res (k : ErrorKind) : (setRes k s).res = k := rfl
@[simp] theorem setRes_rval (k : ErrorKind) : (setRes k s).rval = s.rval := rfl
@[simp] theorem setRes_rnv (k : ErrorKind) : (setRes k s).rnv = s.rnv := rfl
@[simp] theorem setRes_cfgBus (k : ErrorKind) : (setRes k s).cfgBus = s.cfgBus := rfl
@[simp] theorem setRes_cfgAddr (k : ErrorKind) : (setRes k s).cfgAddr = s.cfgAddr := rfl
@[simp] theorem setRes_reqs (k : ErrorKind) : (setRes k s).reqs = s.reqs := rfl
@[simp] theorem setRes_opN (k : ErrorKind) : (setRes k s).opN = s.opN := rfl
@[simp] theorem setRes_opArgs (k : ErrorKind) : (setRes k s).opArgs = s.opArgs := rfl
@[simp] theorem setRes_opBytes (k : ErrorKind) : (setRes k s).opBytes = s.opBytes := rfl
@[simp] theorem setRes_take (k : ErrorKind) : (setRes k s).take = s.take := rfl
@[simp] theorem setRes_cfgPort (k : ErrorKind) : (setRes k s).cfgPort = s.cfgPort := rfl
@[simp] theorem setRes_rst (k : ErrorKind) : (setRes k s).rst = s.rst := rfl
@[simp] theorem setRes_dev (k : ErrorKind) : (setRes k s).dev = s.dev := rfl
@[simp] theorem setRes_script (k : ErrorKind) : (setRes k s).script = s.script := rfl
@[simp] theorem setRes_trace (k : ErrorKind) : (setRes k s).trace = s.trace := rfl
@[simp] theorem setRes_elapsed (k : ErrorKind) : (setRes k s).elapsed = s.elapsed := rfl
@[simp] theorem setRes_resets (k : ErrorKind) : (setRes k s).resets = s.resets := rfl

/-! ### respond -/

@[simp] theorem respond_st (v : RVal) (nv : Option Bool) : (respond v nv s).st = s.st := rfl
@[simp] theorem respond_mode (v : RVal) (nv : Option Bool) : (respond v nv s).mode = s.mode := rfl
@[simp] theorem respond_phase (v : RVal) (nv : Option Bool) : (respond v nv s).phase = s.phase := rfl
@[simp] theorem respond_n (v : RVal) (nv : Option Bool) : (respond v nv s).n = s.n := rfl
@[simp] theorem respond_tries (v : RVal) (nv : Option Bool) : (respond v nv s).tries = s.tries := rfl
@[simp] theorem respond_lastfail (v : RVal) (nv : Option Bool) : (respond v nv s).lastfail = s.lastfail := rfl
@[simp] theorem respond_acc (v : RVal) (nv : Option Bool) : (respond v nv s).acc = s.acc := rfl
@[simp] theorem respond_wbuf (v : RVal) (nv : Option Bool) : (respond v nv s).wbuf = s.wbuf := rfl
@[simp] theorem respond_wlen (v : RVal) (nv : Option Bool) : (respond v nv s).wlen = s.wlen := rfl
@[simp] theorem respond_rbuf (v : RVal) (nv : Option Bool) : (respond v nv s).rbuf = s.rbuf := rfl
@[simp] theorem respond_rlen (v : RVal) (nv : Option Bool) : (respond v nv s).rlen = s.rlen := rfl
@[simp] theorem respond_cmdr (v : RVal) (nv : Option Bool) : (respond v nv s).cmdr = s.cmdr := rfl
@[simp] theorem respond_nvr (v : RVal) (nv : Option Bool) : (respond v nv s).nvr = s.nvr := rfl
@[simp] theorem respond_argr (v : RVal) (nv : Option Bool) : (respond v nv s).argr = s.argr := rfl
@[simp] theorem respond_res (v : RVal) (nv : Option Bool) : (respond v nv s).res = .noError := rfl
@[simp] theorem respond_rval (v : RVal) (nv : Option Bool) : (respond v nv s).rval = v := rfl
@[simp] theorem respond_rnv (v : RVal) (nv : Option Bool) : (respond v nv s).rnv = nv := rfl
@[simp] theorem respond_cfgBus (v : RVal) (nv : Option Bool) : (respond v nv s).cfgBus = s.cfgBus := rfl
@[simp] theorem respond_cfgAddr (v : RVal) (nv : Option Bool) : (respond v nv s).cfgAddr = s.cfgAddr := rfl
@[simp] theorem respond_reqs (v : RVal) (nv : Option Bool) : (respond v nv s).reqs = s.reqs := rfl
@[simp] theorem respond_opN (v : RVal) (nv : Option Bool) : (respond v nv s).opN = s.opN := rfl
@[simp] theorem respond_opArgs (v : RVal) (nv : Option Bool) : (respond v nv s).opArgs = s.opArgs := rfl
@[simp] theorem respond_opBytes (v : RVal) (nv : Option Bool) : (respond v nv s).opBytes = s.opBytes := rfl
@[simp] theorem respond_take (v : RVal) (nv : Option Bool) : (respond v nv s).take = s.take := rfl
@[simp] theorem respond_cfgPort (v : RVal) (nv : Option Bool) : (respond v nv s).cfgPort = s.cfgPort := rfl
@[simp] theorem respond_rst (v : RVal) (nv : Option Bool) : (respond v nv s).rst = s.rst := rfl
@[simp] theorem respond_dev (v : RVal) (nv : Option Bool) : (respond v nv s).dev = s.dev := rfl
@[simp] theorem respond_script (v : RVal) (nv : Option Bool) : (respond v nv s).script = s.script := rfl
@[simp] theorem respond_trace (v : RVal) (nv : Option Bool) : (respond v nv s).trace = s.trace := rfl
@[simp] theorem respond_elapsed (v : RVal) (nv : Option Bool) : (respond v nv s).elapsed = s.elapsed := rfl
@[simp] theorem respond_resets (v : RVal) (nv : Option Bool) : (respond v nv s).resets = s.resets := rfl

/-! ### setRval -/

@[simp] theorem setRval_st (v : RVal) : (setRval v s).st = s.st := rfl
@[simp] theorem setRval_mode (v : RVal) : (setRval v s).mode = s.mode := rfl
@[simp] theorem setRval_phase (v : RVal) : (setRval v s).phase = s.phase := rfl
@[simp] theorem setRval_n (v : RVal) : (setRval v s).n = s.n := rfl
@[simp] theorem setRval_tries (v : RVal) : (setRval v s).tries = s.tries := rfl
@[simp] theorem setRval_lastfail (v : RVal) : (setRval v s).lastfail = s.lastfail := rfl
@[simp] theorem setRval_acc (v : RVal) : (setRval v s).acc = s.acc := rfl
@[simp] theorem setRval_wbuf (v : RVal) : (setRval v s).wbuf = s.wbuf := rfl
@[simp] theorem setRval_wlen (v : RVal) : (setRval v s).wlen = s.wlen := rfl
@[simp] theorem setRval_rbuf (v : RVal) : (setRval v s).rbuf = s.rbuf := rfl
@[simp] theorem setRval_rlen (v : RVal) : (setRval v s).rlen = s.rlen := rfl
@[simp] theorem setRval_cmdr (v : RVal) : (setRval v s).cmdr = s.cmdr := rfl
@[simp] theorem setRval_nvr (v : RVal) : (setRval v s).nvr = s.nvr := rfl
@[simp] theorem setRval_argr (v : RVal) : (setRval v s).argr = s.argr := rfl
@[simp] theorem setRval_res (v : RVal) : (setRval v s).res = s.res := rfl
@[simp] theorem setRval_rval (v : RVal) : (setRval v s).rval = v := rfl
@[simp] theorem setRval_rnv (v : RVal) : (setRval v s).rnv = s.rnv := rfl
@[simp] theorem setRval_cfgBus (v : RVal) : (setRval v s).cfgBus = s.cfgBus := rfl
@[simp] theorem setRval_cfgAddr (v : RVal) : (setRval v s).cfgAddr = s.cfgAddr := rfl
@[simp] theorem setRval_reqs (v : RVal) : (setRval v s).reqs = s.reqs := rfl
@[simp] theorem setRval_opN (v : RVal) : (setRval v s).opN = s.opN := rfl
@[simp] theorem setRval_opArgs (v : RVal) : (setRval v s).opArgs = s.opArgs := rfl
@[simp] theorem setRval_opBytes (v : RVal) : (setRval v s).opBytes = s.opBytes := rfl
@[simp] theorem setRval_take (v : RVal) : (setRval v s).take = s.take := rfl
@[simp] theorem setRval_cfgPort (v : RVal) : (setRval v s).cfgPort = s.cfgPort := rfl
@[simp] theorem setRval_rst (v : RVal) : (setRval v s).rst = s.rst := rfl
@[simp] theorem setRval_dev (v : RVal) : (setRval v s).dev = s.dev := rfl
@[simp] theorem setRval_script (v : RVal) : (setRval v s).script = s.script := rfl
@[simp] theorem setRval_trace (v : RVal) : (setRval v s).trace = s.trace := rfl
@[simp] theorem setRval_elapsed (v : RVal) : (setRval v s).elapsed = s.elapsed := rfl
@[simp] theorem setRval_resets (v : RVal) : (setRval v s).resets = s.resets := rfl

/-! ### goto -/

@[simp] theorem goto_st (t : FsmState) : (goto t s).st = t := rfl
@[simp] theorem goto_mode (t : FsmState) : (goto t s).mode = s.mode := rfl
@[simp] theorem goto_phase (t : FsmState) : (goto t s).phase = s.phase := rfl
@[simp] theorem goto_n (t : FsmState) : (goto t s).n = s.n := rfl
@[simp] theorem goto_tries (t : FsmState) : (goto t s).tries = s.tries := rfl
@[simp] theorem goto_lastfail (t : FsmState) : (goto t s).lastfail = s.lastfail := rfl
@[simp] theorem goto_acc (t : FsmState) : (goto t s).acc = s.acc := rfl
@[simp] theorem goto_wbuf (t : FsmState) : (goto t s).wbuf = s.wbuf := rfl
@[simp] theorem goto_wlen (t : FsmState) : (goto t s).wlen = s.wlen := rfl
@[simp] theorem goto_rbuf (t : FsmState) : (goto t s).rbuf = s.rbuf := rfl
@[simp] theorem goto_rlen (t : FsmState) : (goto t s).rlen = s.rlen := rfl
@[simp] theorem goto_cmdr (t : FsmState) : (goto t s).cmdr = s.cmdr := rfl
@[simp] theorem goto_nvr (t : FsmState) : (goto t s).nvr = s.nvr := rfl
@[simp] theorem goto_argr (t : FsmState) : (goto t s).argr = s.argr := rfl
@[simp] theorem goto_res (t : FsmState) : (goto t s).res = s.res := rfl
@[simp] theorem goto_rval (t : FsmState) : (goto t s).rval = s.rval := rfl
@[simp] theorem goto_rnv (t : FsmState) : (goto t s).rnv = s.rnv := rfl
@[simp] theorem goto_cfgBus (t : FsmState) : (goto t s).cfgBus = s.cfgBus := rfl
@[simp] theorem goto_cfgAddr (t : FsmState) : (goto t s).cfgAddr = s.cfgAddr := rfl
@[simp] theorem goto_reqs (t : FsmState) : (goto t s).reqs = s.reqs := rfl
@[simp] theorem goto_opN (t : FsmState) : (goto t s).opN = s.opN := rfl
@[simp] theorem goto_opArgs (t : FsmState) : (goto t s).opArgs = s.opArgs := rfl
@[simp] theorem goto_opBytes (t : FsmState) : (goto t s).opBytes = s.opBytes := rfl
@[simp] theorem goto_take (t : FsmState) : (goto t s).take = s.take := rfl
@[simp] theorem goto_cfgPort (t : FsmState) : (goto t s).cfgPort = s.cfgPort := rfl
@[simp] theorem goto_rst (t : FsmState) : (goto t s).rst = s.rst := rfl
@[simp] theorem goto_dev (t : FsmState) : (goto t s).dev = s.dev := rfl
@[simp] theorem goto_script (t : FsmState) : (goto t s).script = s.script := rfl
@[simp] theorem goto_trace (t : FsmState) : (goto t s).trace = s.trace := rfl
@[simp] theorem goto_elapsed (t : FsmState) : (goto t s).elapsed = s.elapsed := rfl
@[simp] theorem goto_resets (t : FsmState) : (goto t s).resets = s.resets := rfl

/-! ### raiseSingle -/

@[simp] theorem raiseSingle_st (k : ErrorKind) : (raiseSingle k s).st = s.st := rfl
@[simp] theorem raiseSingle_mode (k : ErrorKind) : (raiseSingle k s).mode = s.mode := rfl
@[simp] theorem raiseSingle_phase (k : ErrorKind) : (raiseSingle k s).phase = s.phase := rfl
@[simp] theorem raiseSingle_n (k : ErrorKind) : (raiseSingle k s).n = s.n := rfl
@[simp] theorem raiseSingle_tries (k : ErrorKind) : (raiseSingle k s).tries = s.tries := rfl
@[simp] theorem raiseSingle_lastfail (k : ErrorKind) : (raiseSingle k s).lastfail = s.lastfail := rfl
@[simp] theorem raiseSingle_acc (k : ErrorKind) : (raiseSingle k s).acc = s.acc := rfl
@[simp] theorem raiseSingle_wbuf (k : ErrorKind) : (raiseSingle k s).wbuf = s.wbuf := rfl
@[simp] theorem raiseSingle_wlen (k : ErrorKind) : (raiseSingle k s).wlen = s.wlen := rfl
@[simp] theorem raiseSingle_rbuf (k : ErrorKind) : (raiseSingle k s).rbuf = s.rbuf := rfl
@[simp] theorem raiseSingle_rlen (k : ErrorKind) : (raiseSingle k s).rlen = s.rlen := rfl
@[simp] theorem raiseSingle_cmdr (k : ErrorKind) : (raiseSingle k s).cmdr = s.cmdr := rfl
@[simp] theorem raiseSingle_nvr (k : ErrorKind) : (raiseSingle k s).nvr = s.nvr := rfl
@[simp] theorem raiseSingle_argr (k : ErrorKind) : (raiseSingle k s).argr = s.argr := rfl
@[simp] theorem raiseSingle_res (k : ErrorKind) : (raiseSingle k s).res = k := rfl
@[simp] theorem raiseSingle_rval (k : ErrorKind) : (raiseSingle k s).rval = s.rval := rfl
@[simp] theorem raiseSingle_rnv (k : ErrorKind) : (raiseSingle k s).rnv = s.rnv := rfl
@[simp] theorem raiseSingle_cfgBus (k : ErrorKind) : (raiseSingle k s).cfgBus = s.cfgBus := rfl
@[simp] theorem raiseSingle_cfgAddr (k : ErrorKind) : (raiseSingle k s).cfgAddr = s.cfgAddr := rfl
@[simp] theorem raiseSingle_reqs (k : ErrorKind) : (raiseSingle k s).reqs = s.reqs := rfl
@[simp] theorem raiseSingle_opN (k : ErrorKind) : (raiseSingle k s).opN = s.opN := rfl
@[simp] theorem raiseSingle_opArgs (k : ErrorKind) : (raiseSingle k s).opArgs = s.opArgs := rfl
@[simp] theorem raiseSingle_opBytes (k : ErrorKind) : (raiseSingle k s).opBytes = s.opBytes := rfl
@[simp] theorem raiseSingle_take (k : ErrorKind) : (raiseSingle k s).take = s.take := rfl
@[simp] theorem raiseSingle_cfgPort (k : ErrorKind) : (raiseSingle k s).cfgPort = s.cfgPort := rfl
@[simp] theorem raiseSingle_rst (k : ErrorKind) : (raiseSingle k s).rst = s.rst := rfl
@[simp] theorem raiseSingle_dev (k : ErrorKind) : (raiseSingle k s).dev = s.dev := rfl
@[simp] theorem raiseSingle_script (k : ErrorKind) : (raiseSingle k s).script = s.script := rfl
@[simp] theorem raiseSingle_trace (k : ErrorKind) : (raiseSingle k s).trace = s.trace := rfl
@[simp] theorem raiseSingle_elapsed (k : ErrorKind) : (raiseSingle k s).elapsed = s.elapsed := rfl
@[simp] theorem raiseSingle_resets (k : ErrorKind) : (raiseSingle k s).resets = s.resets := rfl

/-! ### raiseMulti -/

@[simp] theorem raiseMulti_st (k : ErrorKind) : (raiseMulti k s).st = .done := rfl
@[simp] theorem raiseMulti_mode (k : ErrorKind) : (raiseMulti k s).mode = s.mode := rfl
@[simp] theorem raiseMulti_phase (k : ErrorKind) : (raiseMulti k s).phase = s.phase := rfl
@[simp] theorem raiseMulti_n (k : ErrorKind) : (raiseMulti k s).n = s.n := rfl
@[simp] theorem raiseMulti_tries (k : ErrorKind) : (raiseMulti k s).tries = s.tries := rfl
@[simp] theorem raiseMulti_lastfail (k : ErrorKind) : (raiseMulti k s).lastfail = s.lastfail := rfl
@[simp] theorem raiseMulti_acc (k : ErrorKind) : (raiseMulti k s).acc = s.acc := rfl
@[simp] theorem raiseMulti_wbuf (k : ErrorKind) : (raiseMulti k s).wbuf = s.wbuf := rfl
@[simp] theorem raiseMulti_wlen (k : ErrorKind) : (raiseMulti k s).wlen = s.wlen := rfl
@[simp] theorem raiseMulti_rbuf (k : ErrorKind) : (raiseMulti k s).rbuf = s.rbuf := rfl
@[simp] theorem raiseMulti_rlen (k : ErrorKind) : (raiseMulti k s).rlen = s.rlen := rfl
@[simp] theorem raiseMulti_cmdr (k : ErrorKind) : (raiseMulti k s).cmdr = s.cmdr := rfl
@[simp] theorem raiseMulti_nvr (k : ErrorKind) : (raiseMulti k s).nvr = s.nvr := rfl
@[simp] theorem raiseMulti_argr (k : ErrorKind) : (raiseMulti k s).argr = s.argr := rfl
@[simp] theorem raiseMulti_res (k : ErrorKind) : (raiseMulti k s).res = k := rfl
@[simp] theorem raiseMulti_rval (k : ErrorKind) : (raiseMulti k s).rval = s.rval := rfl
@[simp] theorem raiseMulti_rnv (k : ErrorKind) : (raiseMulti k s).rnv = s.rnv := rfl
@[simp] theorem raiseMulti_cfgBus (k : ErrorKind) : (raiseMulti k s).cfgBus = s.cfgBus := rfl
@[simp] theorem raiseMulti_cfgAddr (k : ErrorKind) : (raiseMulti k s).cfgAddr = s.cfgAddr := rfl
@[simp] theorem raiseMulti_reqs (k : ErrorKind) : (raiseMulti k s).reqs = s.reqs := rfl
@[simp] theorem raiseMulti_opN (k : ErrorKind) : (raiseMulti k s).opN = s.opN := rfl
@[simp] theorem raiseMulti_opArgs (k : ErrorKind) : (raiseMulti k s).opArgs = s.opArgs := rfl
@[simp] theorem raiseMulti_opBytes (k : ErrorKind) : (raiseMulti k s).opBytes = s.opBytes := rfl
@[simp] theorem raiseMulti_take (k : ErrorKind) : (raiseMulti k s).take = s.take := rfl
@[simp] theorem raiseMulti_cfgPort (k : ErrorKind) : (raiseMulti k s).cfgPort = s.cfgPort := rfl
@[simp] theorem raiseMulti_rst (k : ErrorKind) : (raiseMulti k s).rst = s.rst := rfl
@[simp] theorem raiseMulti_dev (k : ErrorKind) : (raiseMulti k s).dev = s.dev := rfl
@[simp] theorem raiseMulti_script (k : ErrorKind) : (raiseMulti k s).script = s.script := rfl
@[simp] theorem raiseMulti_trace (k : ErrorKind) : (raiseMulti k s).trace = s.trace := rfl
@[simp] theorem raiseMulti_elapsed (k : ErrorKind) : (raiseMulti k s).elapsed = s.elapsed := rfl
@[simp] theorem raiseMulti_resets (k : ErrorKind) : (raiseMulti k s).resets = s.resets := rfl

/-! ### takeResponse -/

@[simp] theorem takeResponse_st : (takeResponse s).st = .idle := rfl
@[simp] theorem takeResponse_mode : (takeResponse s).mode = s.mode := rfl
@[simp] theorem takeResponse_phase : (takeResponse s).phase = s.phase := rfl
@[simp] theorem takeResponse_n : (takeResponse s).n = s.n := rfl
@[simp] theorem takeResponse_tries : (takeResponse s).tries = s.tries := rfl
@[simp] theorem takeResponse_lastfail : (takeResponse s).lastfail = s.lastfail := rfl
@[simp] theorem takeResponse_acc : (takeResponse s).acc = s.acc := rfl
@[simp] theorem takeResponse_wbuf : (takeResponse s).wbuf = s.wbuf := rfl
@[simp] theorem takeResponse_wlen : (takeResponse s).wlen = s.wlen := rfl
@[simp] theorem takeResponse_rbuf : (takeResponse s).rbuf = s.rbuf := rfl
@[simp] theorem takeResponse_rlen : (takeResponse s).rlen = s.rlen := rfl
@[simp] theorem takeResponse_cmdr : (takeResponse s).cmdr = s.cmdr := rfl
@[simp] theorem takeResponse_nvr : (takeResponse s).nvr = s.nvr := rfl
@[simp] theorem takeResponse_argr : (takeResponse s).argr = s.argr := rfl
@[simp] theorem takeResponse_res : (takeResponse s).res = s.res := rfl
@[simp] theorem takeResponse_rval : (takeResponse s).rval = s.rval := rfl
@[simp] theorem takeResponse_rnv : (takeResponse s).rnv = s.rnv := rfl
@[simp] theorem takeResponse_cfgBus : (takeResponse s).cfgBus = s.cfgBus := rfl
@[simp] theorem takeResponse_cfgAddr : (takeResponse s).cfgAddr = s.cfgAddr := rfl
@[simp] theorem takeResponse_reqs : (takeResponse s).reqs = s.reqs := rfl
@[simp] theorem takeResponse_opN : (takeResponse s).opN = s.opN := rfl
@[simp] theorem takeResponse_opArgs : (takeResponse s).opArgs = s.opArgs := rfl
@[simp] theorem takeResponse_opBytes : (takeResponse s).opBytes = s.opBytes := rfl
@[simp] theorem takeResponse_take : (takeResponse s).take = s.take := rfl
@[simp] theorem takeResponse_cfgPort : (takeResponse s).cfgPort = s.cfgPort := rfl
@[simp] theorem takeResponse_rst : (takeResponse s).rst = s.rst := rfl
@[simp] theorem takeResponse_dev : (takeResponse s).dev = s.dev := rfl
@[simp] theorem takeResponse_script : (takeResponse s).script = s.script := rfl
@[simp] theorem takeResponse_trace : (takeResponse s).trace = s.trace := rfl
@[simp] theorem takeResponse_elapsed : (takeResponse s).elapsed = s.elapsed := rfl
@[simp] theorem takeResponse_resets : (takeResponse s).resets = s.resets := rfl

/-! ### setAcc -/

@[simp] theorem setAcc_st (b : Byte) : (setAcc b s).st = s.st := rfl
@[simp] theorem setAcc_mode (b : Byte) : (setAcc b s).mode = s.mode := rfl
@[simp] theorem setAcc_phase (b : Byte) : (setAcc b s).phase = s.phase := rfl
@[simp] theorem setAcc_n (b : Byte) : (setAcc b s).n = s.n := rfl
@[simp] theorem setAcc_tries (b : Byte) : (setAcc b s).tries = s.tries := rfl
@[simp] theorem setAcc_lastfail (b : Byte) : (setAcc b s).lastfail = s.lastfail := rfl
@[simp] theorem setAcc_acc (b : Byte) : (setAcc b s).acc = b := rfl
@[simp] theorem setAcc_wbuf (b : Byte) : (setAcc b s).wbuf = s.wbuf := rfl
@[simp] theorem setAcc_wlen (b : Byte) : (setAcc b s).wlen = s.wlen := rfl
@[simp] theorem setAcc_rbuf (b : Byte) : (setAcc b s).rbuf = s.rbuf := rfl
@[simp] theorem setAcc_rlen (b : Byte) : (setAcc b s).rlen = s.rlen := rfl
@[simp] theorem setAcc_cmdr (b : Byte) : (setAcc b s).cmdr = s.cmdr := rfl
@[simp] theorem setAcc_nvr (b : Byte) : (setAcc b s).nvr = s.nvr := rfl
@[simp] theorem setAcc_argr (b : Byte) : (setAcc b s).argr = s.argr := rfl
@[simp] theorem setAcc_res (b : Byte) : (setAcc b s).res = s.res := rfl
@[simp] theorem setAcc_rval (b : Byte) : (setAcc b s).rval = s.rval := rfl
@[simp] theorem setAcc_rnv (b : Byte) : (setAcc b s).rnv = s.rnv := rfl
@[simp] theorem setAcc_cfgBus (b : Byte) : (setAcc b s).cfgBus = s.cfgBus := rfl
@[simp] theorem setAcc_cfgAddr (b : Byte) : (setAcc b s).cfgAddr = s.cfgAddr := rfl
@[simp] theorem setAcc_reqs (b : Byte) : (setAcc b s).reqs = s.reqs := rfl
@[simp] theorem setAcc_opN (b : Byte) : (setAcc b s).opN = s.opN := rfl
@[simp] theorem setAcc_opArgs (b : Byte) : (setAcc b s).opArgs = s.opArgs := rfl
@[simp] theorem setAcc_opBytes (b : Byte) : (setAcc b s).opBytes = s.opBytes := rfl
@[simp] theorem setAcc_take (b : Byte) : (setAcc b s).take = s.take := rfl
@[simp] theorem setAcc_cfgPort (b : Byte) : (setAcc b s).cfgPort = s.cfgPort := rfl
@[simp] theorem setAcc_rst (b : Byte) : (setAcc b s).rst = s.rst := rfl
@[simp] theorem setAcc_dev (b : Byte) : (setAcc b s).dev = s.dev := rfl
@[simp] theorem setAcc_script (b : Byte) : (setAcc b s).script = s.script := rfl
@[simp] theorem setAcc_trace (b : Byte) : (setAcc b s).trace = s.trace := rfl
@[simp] theorem setAcc_elapsed (b : Byte) : (setAcc b s).elapsed = s.elapsed := rfl
@[simp] theorem setAcc_resets (b : Byte) : (setAcc b s).resets = s.resets := rfl

/-! ### latch -/

@[simp] theorem latch_st (m : Mode) (p : Phase) (c : Byte) (nv : Bool) : (latch m p c nv s).st = s.st := rfl
@[simp] theorem latch_mode (m : Mode) (p : Phase) (c : Byte) (nv : Bool) : (latch m p c nv s).mode = m := rfl
@[simp] theorem latch_phase (m : Mode) (p : Phase) (c : Byte) (nv : Bool) : (latch m p c nv s).phase = p := rfl
@[simp] theorem latch_n (m : Mode) (p : Phase) (c : Byte) (nv : Bool) : (latch m p c nv s).n = s.opN := rfl
@[simp] theorem latch_tries (m : Mode) (p : Phase) (c : Byte) (nv : Bool) : (latch m p c nv s).tries = 0 := rfl
@[simp] theorem latch_lastfail (m : Mode) (p : Phase) (c : Byte) (nv : Bool) : (latch m p c nv s).lastfail = .comm := rfl
@[simp] theorem latch_acc (m : Mode) (p : Phase) (c : Byte) (nv : Bool) : (latch m p c nv s).acc = s.acc := rfl
@[simp] theorem latch_wbuf (m : Mode) (p : Phase) (c : Byte) (nv : Bool) : (latch m p c nv s).wbuf = s.wbuf := rfl
@[simp] theorem latch_wlen (m : Mode) (p : Phase) (c : Byte) (nv : Bool) : (latch m p c nv s).wlen = s.wlen := rfl
@[simp] theorem latch_rbuf (m : Mode) (p : Phase) (c : Byte) (nv : Bool) : (latch m p c nv s).rbuf = s.rbuf := rfl
@[simp] theorem latch_rlen (m : Mode) (p : Phase) (c : Byte) (nv : Bool) : (latch m p c nv s).rlen = s.rlen := rfl
@[simp] theorem latch_cmdr (m : Mode) (p : Phase) (c : Byte) (nv : Bool) : (latch m p c nv s).cmdr = c := rfl
@[simp] theorem latch_nvr (m : Mode) (p : Phase) (c : Byte) (nv : Bool) : (latch m p c nv s).nvr = nv := rfl
@[simp] theorem latch_argr (m : Mode) (p : Phase) (c : Byte) (nv : Bool) : (latch m p c nv s).argr = s.opArgs := rfl
@[simp] theorem latch_res (m : Mode) (p : Phase) (c : Byte) (nv : Bool) : (latch m p c nv s).res = s.res := rfl
@[simp] theorem latch_rval (m : Mode) (p : Phase) (c : Byte) (nv : Bool) : (latch m p c nv s).rval = s.rval := rfl
@[simp] theorem latch_rnv (m : Mode) (p : Phase) (c : Byte) (nv : Bool) : (latch m p c nv s).rnv = s.rnv := rfl
@[simp] theorem latch_cfgBus (m : Mode) (p : Phase) (c : Byte) (nv : Bool) : (latch m p c nv s).cfgBus = s.cfgBus := rfl
@[simp] theorem latch_cfgAddr (m : Mode) (p : Phase) (c : Byte) (nv : Bool) : (latch m p c nv s).cfgAddr = s.cfgAddr := rfl
@[simp] theorem latch_reqs (m : Mode) (p : Phase) (c : Byte) (nv : Bool) : (latch m p c nv s).reqs = s.reqs := rfl
@[simp] theorem latch_opN (m : Mode) (p : Phase) (c : Byte) (nv : Bool) : (latch m p c nv s).opN = s.opN := rfl
@[simp] theorem latch_opArgs (m : Mode) (p : Phase) (c : Byte) (nv : Bool) : (latch m p c nv s).opArgs = s.opArgs := rfl
@[simp] theorem latch_opBytes (m : Mode) (p : Phase) (c : Byte) (nv : Bool) : (latch m p c nv s).opBytes = s.opBytes := rfl
@[simp] theorem latch_take (m : Mode) (p : Phase) (c : Byte) (nv : Bool) : (latch m p c nv s).take = s.take := rfl
@[simp] theorem latch_cfgPort (m : Mode) (p : Phase) (c : Byte) (nv : Bool) : (latch m p c nv s).cfgPort = s.cfgPort := rfl
@[simp] theorem latch_rst (m : Mode) (p : Phase) (c : Byte) (nv : Bool) : (latch m p c nv s).rst = s.rst := rfl
@[simp] theorem latch_dev (m : Mode) (p : Phase) (c : Byte) (nv : Bool) : (latch m p c nv s).dev = s.dev := rfl
@[simp] theorem latch_script (m : Mode) (p : Phase) (c : Byte) (nv : Bool) : (latch m p c nv s).script = s.script := rfl
@[simp] theorem latch_trace (m : Mode) (p : Phase) (c : Byte) (nv : Bool) : (latch m p c nv s).trace = s.trace := rfl
@[simp] theorem latch_elapsed (m : Mode) (p : Phase) (c : Byte) (nv : Bool) : (latch m p c nv s).elapsed = s.elapsed := rfl
@[simp] theorem latch_resets (m : Mode) (p : Phase) (c : Byte) (nv : Bool) : (latch m p c nv s).resets = s.resets := rfl

/-! ### loadWbuf -/

@[simp] theorem loadWbuf_st (f : Bytes) : (loadWbuf f s).st = s.st := rfl
@[simp] theorem loadWbuf_mode (f : Bytes) : (loadWbuf f s).mode = s.mode := rfl
@[simp] theorem loadWbuf_phase (f : Bytes) : (loadWbuf f s).phase = s.phase := rfl
@[simp] theorem loadWbuf_n (f : Bytes) : (loadWbuf f s).n = s.n := rfl
@[simp] theorem loadWbuf_tries (f : Bytes) : (loadWbuf f s).tries = s.tries := rfl
@[simp] theorem loadWbuf_lastfail (f : Bytes) : (loadWbuf f s).lastfail = s.lastfail := rfl
@[simp] theorem loadWbuf_acc (f : Bytes) : (loadWbuf f s).acc = s.acc := rfl
@[simp] theorem loadWbuf_wbuf (f : Bytes) : (loadWbuf f s).wbuf = f := rfl
@[simp] theorem loadWbuf_wlen (f : Bytes) : (loadWbuf f s).wlen = BitVec.ofNat 6 f.length := rfl
@[simp] theorem loadWbuf_rbuf (f : Bytes) : (loadWbuf f s).rbuf = s.rbuf := rfl
@[simp] theorem loadWbuf_rlen (f : Bytes) : (loadWbuf f s).rlen = s.rlen := rfl
@[simp] theorem loadWbuf_cmdr (f : Bytes) : (loadWbuf f s).cmdr = s.cmdr := rfl
@[simp] theorem loadWbuf_nvr (f : Bytes) : (loadWbuf f s).nvr = s.nvr := rfl
@[simp] theorem loadWbuf_argr (f : Bytes) : (loadWbuf f s).argr = s.argr := rfl
@[simp] theorem loadWbuf_res (f : Bytes) : (loadWbuf f s).res = s.res := rfl
@[simp] theorem loadWbuf_rval (f : Bytes) : (loadWbuf f s).rval = s.rval := rfl
@[simp] theorem loadWbuf_rnv (f : Bytes) : (loadWbuf f s).rnv = s.rnv := rfl
@[simp] theorem loadWbuf_cfgBus (f : Bytes) : (loadWbuf f s).cfgBus = s.cfgBus := rfl
@[simp] theorem loadWbuf_cfgAddr (f : Bytes) : (loadWbuf f s).cfgAddr = s.cfgAddr := rfl
@[simp] theorem loadWbuf_reqs (f : Bytes) : (loadWbuf f s).reqs = s.reqs := rfl
@[simp] theorem loadWbuf_opN (f : Bytes) : (loadWbuf f s).opN = s.opN := rfl
@[simp] theorem loadWbuf_opArgs (f : Bytes) : (loadWbuf f s).opArgs = s.opArgs := rfl
@[simp] theorem loadWbuf_opBytes (f : Bytes) : (loadWbuf f s).opBytes = s.opBytes := rfl
@[simp] theorem loadWbuf_take (f : Bytes) : (loadWbuf f s).take = s.take := rfl
@[simp] theorem loadWbuf_cfgPort (f : Bytes) : (loadWbuf f s).cfgPort = s.cfgPort := rfl
@[simp] theorem loadWbuf_rst (f : Bytes) : (loadWbuf f s).rst = s.rst := rfl
@[simp] theorem loadWbuf_dev (f : Bytes) : (loadWbuf f s).dev = s.dev := rfl
@[simp] theorem loadWbuf_script (f : Bytes) : (loadWbuf f s).script = s.script := rfl
@[simp] theorem loadWbuf_trace (f : Bytes) : (loadWbuf f s).trace = s.trace := rfl
@[simp] theorem loadWbuf_elapsed (f : Bytes) : (loadWbuf f s).elapsed = s.elapsed := rfl
@[simp] theorem loadWbuf_resets (f : Bytes) : (loadWbuf f s).resets = s.resets := rfl

/-! ### loadRbuf -/

@[simp] theorem loadRbuf_st (f : Bytes) : (loadRbuf f s).st = s.st := rfl
@[simp] theorem loadRbuf_mode (f : Bytes) : (loadRbuf f s).mode = s.mode := rfl
@[simp] theorem loadRbuf_phase (f : Bytes) : (loadRbuf f s).phase = s.phase := rfl
@[simp] theorem loadRbuf_n (f : Bytes) : (loadRbuf f s).n = s.n := rfl
@[simp] theorem loadRbuf_tries (f : Bytes) : (loadRbuf f s).tries = s.tries := rfl
@[simp] theorem loadRbuf_lastfail (f : Bytes) : (loadRbuf f s).lastfail = s.lastfail := rfl
@[simp] theorem loadRbuf_acc (f : Bytes) : (loadRbuf f s).acc = s.acc := rfl
@[simp] theorem loadRbuf_wbuf (f : Bytes) : (loadRbuf f s).wbuf = s.wbuf := rfl
@[simp] theorem loadRbuf_wlen (f : Bytes) : (loadRbuf f s).wlen = s.wlen := rfl
@[simp] theorem loadRbuf_rbuf (f : Bytes) : (loadRbuf f s).rbuf = f := rfl
@[simp] theorem loadRbuf_rlen (f : Bytes) : (loadRbuf f s).rlen = BitVec.ofNat 6 f.length := rfl
@[simp] theorem loadRbuf_cmdr (f : Bytes) : (loadRbuf f s).cmdr = s.cmdr := rfl
@[simp] theorem loadRbuf_nvr (f : Bytes) : (loadRbuf f s).nvr = s.nvr := rfl
@[simp] theorem loadRbuf_argr (f : Bytes) : (loadRbuf f s).argr = s.argr := rfl
@[simp] theorem loadRbuf_res (f : Bytes) : (loadRbuf f s).res = s.res := rfl
@[simp] theorem loadRbuf_rval (f : Bytes) : (loadRbuf f s).rval = s.rval := rfl
@[simp] theorem loadRbuf_rnv (f : Bytes) : (loadRbuf f s).rnv = s.rnv := rfl
@[simp] theorem loadRbuf_cfgBus (f : Bytes) : (loadRbuf f s).cfgBus = s.cfgBus := rfl
@[simp] theorem loadRbuf_cfgAddr (f : Bytes) : (loadRbuf f s).cfgAddr = s.cfgAddr := rfl
@[simp] theorem loadRbuf_reqs (f : Bytes) : (loadRbuf f s).reqs = s.reqs := rfl
@[simp] theorem loadRbuf_opN (f : Bytes) : (loadRbuf f s).opN = s.opN := rfl
@[simp] theorem loadRbuf_opArgs (f : Bytes) : (loadRbuf f s).opArgs = s.opArgs := rfl
@[simp] theorem loadRbuf_opBytes (f : Bytes) : (loadRbuf f s).opBytes = s.opBytes := rfl
@[simp] theorem loadRbuf_take (f : Bytes) : (loadRbuf f s).take = s.take := rfl
@[simp] theorem loadRbuf_cfgPort (f : Bytes) : (loadRbuf f s).cfgPort = s.cfgPort := rfl
@[simp] theorem loadRbuf_rst (f : Bytes) : (loadRbuf f s).rst = s.rst := rfl
@[simp] theorem loadRbuf_dev (f : Bytes) : (loadRbuf f s).dev = s.dev := rfl
@[simp] theorem loadRbuf_script (f : Bytes) : (loadRbuf f s).script = s.script := rfl
@[simp] theorem loadRbuf_trace (f : Bytes) : (loadRbuf f s).trace = s.trace := rfl
@[simp] theorem loadRbuf_elapsed (f : Bytes) : (loadRbuf f s).elapsed = s.elapsed := rfl
@[simp] theorem loadRbuf_resets (f : Bytes) : (loadRbuf f s).resets = s.resets := rfl

/-! ### countAttempt -/

@[simp] theorem countAttempt_st : (countAttempt s).st = s.st := rfl
@[simp] theorem countAttempt_mode : (countAttempt s).mode = s.mode := rfl
@[simp] theorem countAttempt_phase : (countAttempt s).phase = s.phase := rfl
@[simp] theorem countAttempt_n : (countAttempt s).n = s.n := rfl
@[simp] theorem countAttempt_tries : (countAttempt s).tries = s.tries + 1 := rfl
@[simp] theorem countAttempt_lastfail : (countAttempt s).lastfail = s.lastfail := rfl
@[simp] theorem countAttempt_acc : (countAttempt s).acc = s.acc := rfl
@[simp] theorem countAttempt_wbuf : (countAttempt s).wbuf = s.wbuf := rfl
@[simp] theorem countAttempt_wlen : (countAttempt s).wlen = s.wlen := rfl
@[simp] theorem countAttempt_rbuf : (countAttempt s).rbuf = s.rbuf := rfl
@[simp] theorem countAttempt_rlen : (countAttempt s).rlen = s.rlen := rfl
@[simp] theorem countAttempt_cmdr : (countAttempt s).cmdr = s.cmdr := rfl
@[simp] theorem countAttempt_nvr : (countAttempt s).nvr = s.nvr := rfl
@[simp] theorem countAttempt_argr : (countAttempt s).argr = s.argr := rfl
@[simp] theorem countAttempt_res : (countAttempt s).res = s.res := rfl
@[simp] theorem countAttempt_rval : (countAttempt s).rval = s.rval := rfl
@[simp] theorem countAttempt_rnv : (countAttempt s).rnv = s.rnv := rfl
@[simp] theorem countAttempt_cfgBus : (countAttempt s).cfgBus = s.cfgBus := rfl
@[simp] theorem countAttempt_cfgAddr : (countAttempt s).cfgAddr = s.cfgAddr := rfl
@[simp] theorem countAttempt_reqs : (countAttempt s).reqs = s.reqs := rfl
@[simp] theorem countAttempt_opN : (countAttempt s).opN = s.opN := rfl
@[simp] theorem countAttempt_opArgs : (countAttempt s).opArgs = s.opArgs := rfl
@[simp] theorem countAttempt_opBytes : (countAttempt s).opBytes = s.opBytes := rfl
@[simp] theorem countAttempt_take : (countAttempt s).take = s.take := rfl
@[simp] theorem countAttempt_cfgPort : (countAttempt s).cfgPort = s.cfgPort := rfl
@[simp] theorem countAttempt_rst : (countAttempt s).rst = s.rst := rfl
@[simp] theorem countAttempt_dev : (countAttempt s).dev = s.dev := rfl
@[simp] theorem countAttempt_script : (countAttempt s).script = s.script := rfl
@[simp] theorem countAttempt_trace : (countAttempt s).trace = s.trace := rfl
@[simp] theorem countAttempt_elapsed : (countAttempt s).elapsed = s.elapsed := rfl
@[simp] theorem countAttempt_resets : (countAttempt s).resets = s.resets := rfl

/-! ### setLastfail -/

@[simp] theorem setLastfail_st (k : FailKind) : (setLastfail k s).st = s.st := rfl
@[simp] theorem setLastfail_mode (k : FailKind) : (setLastfail k s).mode = s.mode := rfl
@[simp] theorem setLastfail_phase (k : FailKind) : (setLastfail k s).phase = s.phase := rfl
@[simp] theorem setLastfail_n (k : FailKind) : (setLastfail k s).n = s.n := rfl
@[simp] theorem setLastfail_tries (k : FailKind) : (setLastfail k s).tries = s.tries := rfl
@[simp] theorem setLastfail_lastfail (k : FailKind) : (setLastfail k s).lastfail = k := rfl
@[simp] theorem setLastfail_acc (k : FailKind) : (setLastfail k s).acc = s.acc := rfl
@[simp] theorem setLastfail_wbuf (k : FailKind) : (setLastfail k s).wbuf = s.wbuf := rfl
@[simp] theorem setLastfail_wlen (k : FailKind) : (setLastfail k s).wlen = s.wlen := rfl
@[simp] theorem setLastfail_rbuf (k : FailKind) : (setLastfail k s).rbuf = s.rbuf := rfl
@[simp] theorem setLastfail_rlen (k : FailKind) : (setLastfail k s).rlen = s.rlen := rfl
@[simp] theorem setLastfail_cmdr (k : FailKind) : (setLastfail k s).cmdr = s.cmdr := rfl
@[simp] theorem setLastfail_nvr (k : FailKind) : (setLastfail k s).nvr = s.nvr := rfl
@[simp] theorem setLastfail_argr (k : FailKind) : (setLastfail k s).argr = s.argr := rfl
@[simp] theorem setLastfail_res (k : FailKind) : (setLastfail k s).res = s.res := rfl
@[simp] theorem setLastfail_rval (k : FailKind) : (setLastfail k s).rval = s.rval := rfl
@[simp] theorem setLastfail_rnv (k : FailKind) : (setLastfail k s).rnv = s.rnv := rfl
@[simp] theorem setLastfail_cfgBus (k : FailKind) : (setLastfail k s).cfgBus = s.cfgBus := rfl
@[simp] theorem setLastfail_cfgAddr (k : FailKind) : (setLastfail k s).cfgAddr = s.cfgAddr := rfl
@[simp] theorem setLastfail_reqs (k : FailKind) : (setLastfail k s).reqs = s.reqs := rfl
@[simp] theorem setLastfail_opN (k : FailKind) : (setLastfail k s).opN = s.opN := rfl
@[simp] theorem setLastfail_opArgs (k : FailKind) : (setLastfail k s).opArgs = s.opArgs := rfl
@[simp] theorem setLastfail_opBytes (k : FailKind) : (setLastfail k s).opBytes = s.opBytes := rfl
@[simp] theorem setLastfail_take (k : FailKind) : (setLastfail k s).take = s.take := rfl
@[simp] theorem setLastfail_cfgPort (k : FailKind) : (setLastfail k s).cfgPort = s.cfgPort := rfl
@[simp] theorem setLastfail_rst (k : FailKind) : (setLastfail k s).rst = s.rst := rfl
@[simp] theorem setLastfail_dev (k : FailKind) : (setLastfail k s).dev = s.dev := rfl
@[simp] theorem setLastfail_script (k : FailKind) : (setLastfail k s).script = s.script := rfl
@[simp] theorem setLastfail_trace (k : FailKind) : (setLastfail k s).trace = s.trace := rfl
@[simp] theorem setLastfail_elapsed (k : FailKind) : (setLastfail k s).elapsed = s.elapsed := rfl
@[simp] theorem setLastfail_resets (k : FailKind) : (setLastfail k s).resets = s.resets := rfl

/-! ### startPhase -/

@[simp] theorem startPhase_st (p : Phase) : (startPhase p s).st = s.st := rfl
@[simp] theorem startPhase_mode (p : Phase) : (startPhase p s).mode = s.mode := rfl
@[simp] theorem startPhase_phase (p : Phase) : (startPhase p s).phase = p := rfl
@[simp] theorem startPhase_n (p : Phase) : (startPhase p s).n = s.n := rfl
@[simp] theorem startPhase_tries (p : Phase) : (startPhase p s).tries = 0 := rfl
@[simp] theorem startPhase_lastfail (p : Phase) : (startPhase p s).lastfail = s.lastfail := rfl
@[simp] theorem startPhase_acc (p : Phase) : (startPhase p s).acc = s.acc := rfl
@[simp] theorem startPhase_wbuf (p : Phase) : (startPhase p s).wbuf = s.wbuf := rfl
@[simp] theorem startPhase_wlen (p : Phase) : (startPhase p s).wlen = s.wlen := rfl
@[simp] theorem startPhase_rbuf (p : Phase) : (startPhase p s).rbuf = s.rbuf := rfl
@[simp] theorem startPhase_rlen (p : Phase) : (startPhase p s).rlen = s.rlen := rfl
@[simp] theorem startPhase_cmdr (p : Phase) : (startPhase p s).cmdr = s.cmdr := rfl
@[simp] theorem startPhase_nvr (p : Phase) : (startPhase p s).nvr = s.nvr := rfl
@[simp] theorem startPhase_argr (p : Phase) : (startPhase p s).argr = s.argr := rfl
@[simp] theorem startPhase_res (p : Phase) : (startPhase p s).res = s.res := rfl
@[simp] theorem startPhase_rval (p : Phase) : (startPhase p s).rval = s.rval := rfl
@[simp] theorem startPhase_rnv (p : Phase) : (startPhase p s).rnv = s.rnv := rfl
@[simp] theorem startPhase_cfgBus (p : Phase) : (startPhase p s).cfgBus = s.cfgBus := rfl
@[simp] theorem startPhase_cfgAddr (p : Phase) : (startPhase p s).cfgAddr = s.cfgAddr := rfl
@[simp] theorem startPhase_reqs (p : Phase) : (startPhase p s).reqs = s.reqs := rfl
@[simp] theorem startPhase_opN (p : Phase) : (startPhase p s).opN = s.opN := rfl
@[simp] theorem startPhase_opArgs (p : Phase) : (startPhase p s).opArgs = s.opArgs := rfl
@[simp] theorem startPhase_opBytes (p : Phase) : (startPhase p s).opBytes = s.opBytes := rfl
@[simp] theorem startPhase_take (p : Phase) : (startPhase p s).take = s.take := rfl
@[simp] theorem startPhase_cfgPort (p : Phase) : (startPhase p s).cfgPort = s.cfgPort := rfl
@[simp] theorem startPhase_rst (p : Phase) : (startPhase p s).rst = s.rst := rfl
@[simp] theorem startPhase_dev (p : Phase) : (startPhase p s).dev = s.dev := rfl
@[simp] theorem startPhase_script (p : Phase) : (startPhase p s).script = s.script := rfl
@[simp] theorem startPhase_trace (p : Phase) : (startPhase p s).trace = s.trace := rfl
@[simp] theorem startPhase_elapsed (p : Phase) : (startPhase p s).elapsed = s.elapsed := rfl
@[simp] theorem startPhase_resets (p : Phase) : (startPhase p s).resets = s.resets := rfl

/-! ### passTime -/

@[simp] theorem passTime_st (d : Nat) : (passTime d s).st = s.st := rfl
@[simp] theorem passTime_mode (d : Nat) : (passTime d s).mode = s.mode := rfl
@[simp] theorem passTime_phase (d : Nat) : (passTime d s).phase = s.phase := rfl
@[simp] theorem passTime_n (d : Nat) : (passTime d s).n = s.n := rfl
@[simp] theorem passTime_tries (d : Nat) : (passTime d s).tries = s.tries := rfl
@[simp] theorem passTime_lastfail (d : Nat) : (passTime d s).lastfail = s.lastfail := rfl
@[simp] theorem passTime_acc (d : Nat) : (passTime d s).acc = s.acc := rfl
@[simp] theorem passTime_wbuf (d : Nat) : (passTime d s).wbuf = s.wbuf := rfl
@[simp] theorem passTime_wlen (d : Nat) : (passTime d s).wlen = s.wlen := rfl
@[simp] theorem passTime_rbuf (d : Nat) : (passTime d s).rbuf = s.rbuf := rfl
@[simp] theorem passTime_rlen (d : Nat) : (passTime d s).rlen = s.rlen := rfl
@[simp] theorem passTime_cmdr (d : Nat) : (passTime d s).cmdr = s.cmdr := rfl
@[simp] theorem passTime_nvr (d : Nat) : (passTime d s).nvr = s.nvr := rfl
@[simp] theorem passTime_argr (d : Nat) : (passTime d s).argr = s.argr := rfl
@[simp] theorem passTime_res (d : Nat) : (passTime d s).res = s.res := rfl
@[simp] theorem passTime_rval (d : Nat) : (passTime d s).rval = s.rval := rfl
@[simp] theorem passTime_rnv (d : Nat) : (passTime d s).rnv = s.rnv := rfl
@[simp] theorem passTime_cfgBus (d : Nat) : (passTime d s).cfgBus = s.cfgBus := rfl
@[simp] theorem passTime_cfgAddr (d : Nat) : (passTime d s).cfgAddr = s.cfgAddr := rfl
@[simp] theorem passTime_reqs (d : Nat) : (passTime d s).reqs = s.reqs := rfl
@[simp] theorem passTime_opN (d : Nat) : (passTime d s).opN = s.opN := rfl
@[simp] theorem passTime_opArgs (d : Nat) : (passTime d s).opArgs = s.opArgs := rfl
@[simp] theorem passTime_opBytes (d : Nat) : (passTime d s).opBytes = s.opBytes := rfl
@[simp] theorem passTime_take (d : Nat) : (passTime d s).take = s.take := rfl
@[simp] theorem passTime_cfgPort (d : Nat) : (passTime d s).cfgPort = s.cfgPort := rfl
@[simp] theorem passTime_rst (d : Nat) : (passTime d s).rst = s.rst := rfl
@[simp] theorem passTime_dev (d : Nat) : (passTime d s).dev = s.dev := rfl
@[simp] theorem passTime_script (d : Nat) : (passTime d s).script = s.script := rfl
@[simp] theorem passTime_trace (d : Nat) : (passTime d s).trace = s.trace := rfl
@[simp] theorem passTime_elapsed (d : Nat) : (passTime d s).elapsed = s.elapsed + d := rfl
@[simp] theorem passTime_resets (d : Nat) : (passTime d s).resets = s.resets := rfl

/-! ### recordCall -/

@[simp] theorem recordCall_st (c : Call) (d : Dev) : (recordCall c d s).st = s.st := rfl
@[simp] theorem recordCall_mode (c : Call) (d : Dev) : (recordCall c d s).mode = s.mode := rfl
@[simp] theorem recordCall_phase (c : Call) (d : Dev) : (recordCall c d s).phase = s.phase := rfl
@[simp] theorem recordCall_n (c : Call) (d : Dev) : (recordCall c d s).n = s.n := rfl
@[simp] theorem recordCall_tries (c : Call) (d : Dev) : (recordCall c d s).tries = s.tries := rfl
@[simp] theorem recordCall_lastfail (c : Call) (d : Dev) : (recordCall c d s).lastfail = s.lastfail := rfl
@[simp] theorem recordCall_acc (c : Call) (d : Dev) : (recordCall c d s).acc = s.acc := rfl
@[simp] theorem recordCall_wbuf (c : Call) (d : Dev) : (recordCall c d s).wbuf = s.wbuf := rfl
@[simp] theorem recordCall_wlen (c : Call) (d : Dev) : (recordCall c d s).wlen = s.wlen := rfl
@[simp] theorem recordCall_rbuf (c : Call) (d : Dev) : (recordCall c d s).rbuf = s.rbuf := rfl
@[simp] theorem recordCall_rlen (c : Call) (d : Dev) : (recordCall c d s).rlen = s.rlen := rfl
@[simp] theorem recordCall_cmdr (c : Call) (d : Dev) : (recordCall c d s).cmdr = s.cmdr := rfl
@[simp] theorem recordCall_nvr (c : Call) (d : Dev) : (recordCall c d s).nvr = s.nvr := rfl
@[simp] theorem recordCall_argr (c : Call) (d : Dev) : (recordCall c d s).argr = s.argr := rfl
@[simp] theorem recordCall_res (c : Call) (d : Dev) : (recordCall c d s).res = s.res := rfl
@[simp] theorem recordCall_rval (c : Call) (d : Dev) : (recordCall c d s).rval = s.rval := rfl
@[simp] theorem recordCall_rnv (c : Call) (d : Dev) : (recordCall c d s).rnv = s.rnv := rfl
@[simp] theorem recordCall_cfgBus (c : Call) (d : Dev) : (recordCall c d s).cfgBus = s.cfgBus := rfl
@[simp] theorem recordCall_cfgAddr (c : Call) (d : Dev) : (recordCall c d s).cfgAddr = s.cfgAddr := rfl
@[simp] theorem recordCall_reqs (c : Call) (d : Dev) : (recordCall c d s).reqs = s.reqs := rfl
@[simp] theorem recordCall_opN (c : Call) (d : Dev) : (recordCall c d s).opN = s.opN := rfl
@[simp] theorem recordCall_opArgs (c : Call) (d : Dev) : (recordCall c d s).opArgs = s.opArgs := rfl
@[simp] theorem recordCall_opBytes (c : Call) (d : Dev) : (recordCall c d s).opBytes = s.opBytes := rfl
@[simp] theorem recordCall_take (c : Call) (d : Dev) : (recordCall c d s).take = s.take := rfl
@[simp] theorem recordCall_cfgPort (c : Call) (d : Dev) : (recordCall c d s).cfgPort = s.cfgPort := rfl
@[simp] theorem recordCall_rst (c : Call) (d : Dev) : (recordCall c d s).rst = s.rst := rfl
@[simp] theorem recordCall_dev (c : Call) (d : Dev) : (recordCall c d s).dev = d := rfl
@[simp] theorem recordCall_script (c : Call) (d : Dev) : (recordCall c d s).script = s.script.tail := rfl
@[simp] theorem recordCall_trace (c : Call) (d : Dev) : (recordCall c d s).trace = c :: s.trace := rfl
@[simp] theorem recordCall_elapsed (c : Call) (d : Dev) : (recordCall c d s).elapsed = s.elapsed := rfl
@[simp] theorem recordCall_resets (c : Call) (d : Dev) : (recordCall c d s).resets = s.resets := rfl

/-! ### presentWord -/

@[simp] theorem presentWord_st (w : ReqWord) : (presentWord w s).st = .idle := rfl
@[simp] theorem presentWord_mode (w : ReqWord) : (presentWord w s).mode = s.mode := rfl
@[simp] theorem presentWord_phase (w : ReqWord) : (presentWord w s).phase = s.phase := rfl
@[simp] theorem presentWord_n (w : ReqWord) : (presentWord w s).n = s.n := rfl
@[simp] theorem presentWord_tries (w : ReqWord) : (presentWord w s).tries = s.tries := rfl
@[simp] theorem presentWord_lastfail (w : ReqWord) : (presentWord w s).lastfail = s.lastfail := rfl
@[simp] theorem presentWord_acc (w : ReqWord) : (presentWord w s).acc = s.acc := rfl
@[simp] theorem presentWord_wbuf (w : ReqWord) : (presentWord w s).wbuf = s.wbuf := rfl
@[simp] theorem presentWord_wlen (w : ReqWord) : (presentWord w s).wlen = s.wlen := rfl
@[simp] theorem presentWord_rbuf (w : ReqWord) : (presentWord w s).rbuf = s.rbuf := rfl
@[simp] theorem presentWord_rlen (w : ReqWord) : (presentWord w s).rlen = s.rlen := rfl
@[simp] theorem presentWord_cmdr (w : ReqWord) : (presentWord w s).cmdr = s.cmdr := rfl
@[simp] theorem presentWord_nvr (w : ReqWord) : (presentWord w s).nvr = s.nvr := rfl
@[simp] theorem presentWord_argr (w : ReqWord) : (presentWord w s).argr = s.argr := rfl
@[simp] theorem presentWord_res (w : ReqWord) : (presentWord w s).res = s.res := rfl
@[simp] theorem presentWord_rval (w : ReqWord) : (presentWord w s).rval = s.rval := rfl
@[simp] theorem presentWord_rnv (w : ReqWord) : (presentWord w s).rnv = s.rnv := rfl
@[simp] theorem presentWord_cfgBus (w : ReqWord) : (presentWord w s).cfgBus = s.cfgBus := rfl
@[simp] theorem presentWord_cfgAddr (w : ReqWord) : (presentWord w s).cfgAddr = s.cfgAddr := rfl
@[simp] theorem presentWord_reqs (w : ReqWord) : (presentWord w s).reqs = { word := w, n := s.opN, args := s.opArgs, bytes := s.opBytes } :: s.reqs := rfl
@[simp] theorem presentWord_opN (w : ReqWord) : (presentWord w s).opN = s.opN := rfl
@[simp] theorem presentWord_opArgs (w : ReqWord) : (presentWord w s).opArgs = s.opArgs := rfl
@[simp] theorem presentWord_opBytes (w : ReqWord) : (presentWord w s).opBytes = s.opBytes := rfl
@[simp] theorem presentWord_take (w : ReqWord) : (presentWord w s).take = s.take := rfl
@[simp] theorem presentWord_cfgPort (w : ReqWord) : (presentWord w s).cfgPort = none := rfl
@[simp] theorem presentWord_rst (w : ReqWord) : (presentWord w s).rst = false := rfl
@[simp] theorem presentWord_dev (w : ReqWord) : (presentWord w s).dev = s.dev := rfl
@[simp] theorem presentWord_script (w : ReqWord) : (presentWord w s).script = s.script := rfl
@[simp] theorem presentWord_trace (w : ReqWord) : (presentWord w s).trace = s.trace := rfl
@[simp] theorem presentWord_elapsed (w : ReqWord) : (presentWord w s).elapsed = s.elapsed := rfl
@[simp] theorem presentWord_resets (w : ReqWord) : (presentWord w s).resets = s.resets := rfl

/-! ### resetEngine -/

@[simp] theorem resetEngine_st : (resetEngine s).st = .idle := rfl
@[simp] theorem resetEngine_mode : (resetEngine s).mode = .rd := rfl
@[simp] theorem resetEngine_phase : (resetEngine s).phase = .pre := rfl
@[simp] theorem resetEngine_n : (resetEngine s).n = 0 := rfl
@[simp] theorem resetEngine_tries : (resetEngine s).tries = 0 := rfl
@[simp] theorem resetEngine_lastfail : (resetEngine s).lastfail = .comm := rfl
@[simp] theorem resetEngine_acc : (resetEngine s).acc = 0xFF := rfl
@[simp] theorem resetEngine_wbuf : (resetEngine s).wbuf = [] := rfl
@[simp] theorem resetEngine_wlen : (resetEngine s).wlen = 0 := rfl
@[simp] theorem resetEngine_rbuf : (resetEngine s).rbuf = [] := rfl
@[simp] theorem resetEngine_rlen : (resetEngine s).rlen = 0 := rfl
@[simp] theorem resetEngine_cmdr : (resetEngine s).cmdr = Config.resetByte s.resets 0 := rfl
@[simp] theorem resetEngine_nvr : (resetEngine s).nvr = Config.resetNvr s.resets := rfl
@[simp] theorem resetEngine_argr : (resetEngine s).argr = Config.resetArgr s.resets := rfl
@[simp] theorem resetEngine_res : (resetEngine s).res = .noError := rfl
@[simp] theorem resetEngine_rval : (resetEngine s).rval = .unit := rfl
@[simp] theorem resetEngine_rnv : (resetEngine s).rnv = none := rfl
@[simp] theorem resetEngine_cfgBus : (resetEngine s).cfgBus = Config.resetByte s.resets 1 := rfl
@[simp] theorem resetEngine_cfgAddr : (resetEngine s).cfgAddr = Config.resetByte s.resets 2 := rfl
@[simp] theorem resetEngine_reqs : (resetEngine s).reqs = s.reqs := rfl
@[simp] theorem resetEngine_opN : (resetEngine s).opN = s.opN := rfl
@[simp] theorem resetEngine_opArgs : (resetEngine s).opArgs = s.opArgs := rfl
@[simp] theorem resetEngine_opBytes : (resetEngine s).opBytes = s.opBytes := rfl
@[simp] theorem resetEngine_take : (resetEngine s).take = s.take := rfl
@[simp] theorem resetEngine_cfgPort : (resetEngine s).cfgPort = s.cfgPort := rfl
@[simp] theorem resetEngine_rst : (resetEngine s).rst = false := rfl
@[simp] theorem resetEngine_dev : (resetEngine s).dev = s.dev := rfl
@[simp] theorem resetEngine_script : (resetEngine s).script = s.script := rfl
@[simp] theorem resetEngine_trace : (resetEngine s).trace = s.trace := rfl
@[simp] theorem resetEngine_elapsed : (resetEngine s).elapsed = s.elapsed := rfl
@[simp] theorem resetEngine_resets : (resetEngine s).resets = s.resets + 1 := rfl

end

end Sys2Proof.Machine
end

