-- ==== Sys2Proof/Laws/Ops.lean ====
section
/-! SUPPORT. For each shared operation of Machine/Ops.lean and Machine/Operands.lean, what it can do, said once. -/

namespace Sys2Proof.Machine

/-! ## The Transport -/

/-- A read call that returns is recorded, and changes nothing but the Transport boundary. -/
theorem memRead_spec {P : Params} {reg : Byte} {len : Nat} {s s' : State} {a : Option Bytes}
    (h : memRead P reg len s = some (a, s')) :
    readAnswer P reg len s = some a ∧
      s' = recordCall (.read s.cfgBus s.cfgAddr reg len) (devBefore P s) s := by
  unfold memRead at h
  split at h
  · cases h
  · rename_i x hx
    injection h with h
    injection h with h1 h2
    exact ⟨by rw [hx, h1], h2.symm⟩

/-- A read call does not return exactly when its answer is `never` (rule R312 c). -/
theorem memRead_none {P : Params} {reg : Byte} {len : Nat} {s : State} :
    memRead P reg len s = none ↔ (nextOverride s).rule = .never := by
  unfold memRead readAnswer
  cases (nextOverride s).rule <;> simp

/-- A write call that returns is recorded, and changes nothing but the Transport boundary. -/
theorem memWrite_spec {P : Params} {reg : Byte} {f : Bytes} {s s' : State} {ok : Bool}
    (h : memWrite P reg f s = some (ok, s')) :
    ∃ d, writeAnswer P reg f s = some (ok, d) ∧ s' = recordCall (.write s.cfgBus s.cfgAddr reg f) d s := by
  unfold memWrite at h
  split at h
  · cases h
  · rename_i ok' d hx
    injection h with h
    injection h with h1 h2
    exact ⟨d, by rw [hx, h1], h2.symm⟩

/-- A write call does not return exactly when its answer is `never` (rule R312 c). -/
theorem memWrite_none {P : Params} {reg : Byte} {f : Bytes} {s : State} :
    memWrite P reg f s = none ↔ (nextOverride s).rule = .never := by
  unfold memWrite writeAnswer
  cases (nextOverride s).rule <;> simp

/-- The operations on the Transport keep the device map in its canonical form. -/
theorem memRead_wf {P : Params} {reg : Byte} {len : Nat} {s s' : State} {a : Option Bytes} (hd : devWf s.dev = true)
    (h : memRead P reg len s = some (a, s')) : devWf s'.dev = true := by
  obtain ⟨-, rfl⟩ := memRead_spec h
  exact devBefore_wf P s hd

theorem memWrite_wf {P : Params} {reg : Byte} {f : Bytes} {s s' : State} {ok : Bool} (hd : devWf s.dev = true)
    (h : memWrite P reg f s = some (ok, s')) : devWf s'.dev = true := by
  obtain ⟨d, ha, rfl⟩ := memWrite_spec h
  exact writeAnswer_wf P reg f s ok d hd ha

/-! ## The ports -/

/-- A configuration write takes effect in `IDLE` and is ignored elsewhere; either way the port is emptied. -/
theorem configure_spec (w : CfgWrite) (s : State) :
    (s.st = .idle ∧ w.reg = .bus ∧ configure w s = { s with cfgBus := w.val, cfgPort := none }) ∨
    (s.st = .idle ∧ w.reg = .addr ∧ configure w s = { s with cfgAddr := w.val, cfgPort := none }) ∨
    (s.st ≠ .idle ∧ configure w s = { s with cfgPort := none }) := by
  unfold configure
  by_cases h : s.st = .idle
  · cases hr : w.reg <;> simp [h]
  · simp [h]

/-- Fetching takes the request at the port and puts its operands on the operand ports. -/
theorem fetch_spec {s s' : State} {w : ReqWord} (h : fetch s = some (w, s')) :
    ∃ r rest, s.reqs = r :: rest ∧ w = r.word ∧
      s' = { s with reqs := rest, opN := r.n, opArgs := r.args, opBytes := r.bytes } := by
  unfold fetch at h
  split at h
  · cases h
  · rename_i r rest hr
    injection h with h
    injection h with h1 h2
    exact ⟨r, rest, hr, h1.symm, h2.symm⟩

theorem fetch_none {s : State} : fetch s = none ↔ s.reqs = [] := by
  unfold fetch
  split <;> simp_all

/-- A word without an instruction is answered `BadArgument`, in `DONE` for a transfer operation, in place otherwise. -/
theorem refuseWord_spec (w : ReqWord) (s : State) :
    (isXferWord w = true ∧ refuseWord w s = raiseMulti .badArgument s) ∨
    (isXferWord w = false ∧ refuseWord w s = raiseSingle .badArgument s) := by
  unfold refuseWord
  cases h : isXferWord w <;> simp

/-! ## The row of a request -/

theorem lookupRow_spec {tab : List CmdRow} {cmd : Byte} {ch : Nat} {row : CmdRow}
    (h : lookupRow tab cmd ch = some row) : row ∈ tab ∧ row.code = cmd ∧ ch < row.chans := by
  unfold lookupRow lookup at h
  split at h
  · cases h
  · rename_i r hr
    split at h
    · injection h with h
      subst h
      refine ⟨List.mem_of_find?_eq_some hr, ?_, ?_⟩
      · simpa using List.find?_some hr
      · assumption
    · cases h

/-- What makes a table find the row of a request again: no code range leaves the byte, and no two overlap (rule R90). -/
theorem cmdtabWellFormed_cons {m : Nat} {r : CmdRow} {rest : List CmdRow} (h : cmdtabWellFormed m (r :: rest) = true) :
    rowWellFormed m r = true ∧ (∀ x ∈ rest, rowsDisjoint r x = true) ∧ cmdtabWellFormed m rest = true := by
  simpa [cmdtabWellFormed, Bool.and_eq_true, and_assoc] using h

/-- A row of a well-formed table is well-formed. -/
theorem cmdtabWellFormed_mem {m : Nat} {tab : List CmdRow} (h : cmdtabWellFormed m tab = true) :
    ∀ row ∈ tab, rowWellFormed m row = true := by
  induction tab with
  | nil => simp
  | cons r rest ih =>
    obtain ⟨h1, -, h3⟩ := cmdtabWellFormed_cons h
    intro row hm
    rcases List.mem_cons.mp hm with rfl | hm
    · exact h1
    · exact ih h3 row hm

/-- A well-formed row has one to four channels, and its codes stay in a byte (rule R90). -/
theorem rowWellFormed_range {m : Nat} {row : CmdRow} (h : rowWellFormed m row = true) :
    1 ≤ row.chans ∧ row.chans ≤ 4 ∧ row.code.toNat + row.chans ≤ 256 := by
  simp only [rowWellFormed, Bool.and_eq_true, decide_eq_true_eq] at h
  omega

/-- The code of a channel lies in the row's code range (rule R92). -/
theorem effCode_toNat {m : Nat} {row : CmdRow} {ch : Nat} (h : rowWellFormed m row = true) (hc : ch < row.chans) :
    (effCode row ch).toNat = row.code.toNat + ch := by
  have := rowWellFormed_range h
  unfold effCode
  rw [BitVec.toNat_add, BitVec.toNat_ofNat]
  omega

/-- The row of the request in progress is found again from the effective command code (rules R29, R90, R92). -/
theorem rowOf_effCode {m : Nat} {tab : List CmdRow} (h : cmdtabWellFormed m tab = true) :
    ∀ row ∈ tab, ∀ ch < row.chans, rowOf tab (effCode row ch) = some row := by
  induction tab with
  | nil => simp
  | cons r rest ih =>
    obtain ⟨h1, h2, h3⟩ := cmdtabWellFormed_cons h
    intro row hm ch hc
    have he := effCode_toNat (cmdtabWellFormed_mem h row hm) hc
    unfold rowOf
    rw [List.find?_cons]
    rcases List.mem_cons.mp hm with rfl | hm'
    · rw [he]
      simp [hc]
    · have hd := h2 row hm'
      simp only [rowsDisjoint, decide_eq_true_eq] at hd
      have : ¬ (r.code.toNat ≤ (effCode row ch).toNat ∧ (effCode row ch).toNat < r.code.toNat + r.chans) := by
        rw [he]; omega
      simp only [this, decide_false]
      exact ih h3 row hm' ch hc

/-- The parameters of rule R6 are admissible. -/
theorem defaults_wellFormed : paramsWellFormed defaults = true := by decide +kernel

/-- Admissible parameters have a well-formed command table. -/
theorem paramsWellFormed_cmdtab {P : Params} (h : paramsWellFormed P = true) :
    cmdtabWellFormed (P.frameMax - 1) P.cmdtab = true := by
  simp only [paramsWellFormed, Bool.and_eq_true] at h
  exact h.1.2

theorem rowOf_mem {tab : List CmdRow} {c : Byte} {row : CmdRow} (h : rowOf tab c = some row) : row ∈ tab :=
  List.mem_of_find?_eq_some h

/-! ## The packer -/

/-- A packed payload is the base with the fields of the operands inserted. -/
theorem pack_spec {P : Params} {l : Layout} {base p : Bytes} {args : Args} {all : Bool} (h : pack P l base args all = .ok p) :
    ∃ fs, collect P l args all = .ok fs ∧ p = fs.foldl insField base := by
  unfold pack at h
  split at h
  · cases h
  · rename_i fs hfs
    injection h with h
    exact ⟨fs, hfs, h.symm⟩

theorem insNv_length (row : CmdRow) (nv : Bool) (p : Bytes) : (insNv row nv p).length = p.length := by
  unfold insNv
  split <;> simp

/-- An encoded frame is a payload of the row's length with its checksum. -/
theorem encFrame_spec {P : Params} {row : CmdRow} {wlen : Nat} {nv : Bool} {args : Args} {f : Bytes}
    (h : encFrame P row wlen nv args = .ok f) :
    ∃ p, pack P row.layout (zeros wlen) args true = .ok p ∧ f = appendCk (insNv row nv p) := by
  unfold encFrame at h
  split at h
  · cases h
  · rename_i p hp
    injection h with h
    exact ⟨p, hp, h.symm⟩

theorem encFrame_length {P : Params} {row : CmdRow} {wlen : Nat} {nv : Bool} {args : Args} {f : Bytes}
    (h : encFrame P row wlen nv args = .ok f) : f.length = wlen + 1 := by
  obtain ⟨p, hp, rfl⟩ := encFrame_spec h
  obtain ⟨fs, -, rfl⟩ := pack_spec hp
  simp [insNv_length]

/-- A merged frame is the base payload with the fields of the named groups, then `nv`, then the checksum. -/
theorem mergeFrame_spec {P : Params} {row : CmdRow} {base f : Bytes} {nv : Bool} {args : Args}
    (h : mergeFrame P row base nv args = .ok f) :
    ∃ fs, collect P row.layout args false = .ok fs ∧ f = appendCk (insNv row nv (fs.foldl insField base)) := by
  unfold mergeFrame at h
  split at h
  · cases h
  · rename_i p hp
    injection h with h
    obtain ⟨fs, hfs, rfl⟩ := pack_spec hp
    exact ⟨fs, hfs, h.symm⟩

theorem mergeFrame_length {P : Params} {row : CmdRow} {base f : Bytes} {nv : Bool} {args : Args}
    (h : mergeFrame P row base nv args = .ok f) : f.length = base.length + 1 := by
  obtain ⟨fs, -, rfl⟩ := mergeFrame_spec h
  simp [insNv_length]

/-- The merge fails only if the operands do not convert. -/
theorem mergeFrame_error {P : Params} {row : CmdRow} {base : Bytes} {nv : Bool} {args : Args} {k : ErrorKind}
    (h : mergeFrame P row base nv args = .error k) : collect P row.layout args false = .error k := by
  unfold mergeFrame pack at h
  split at h
  · rename_i hp
    split at hp
    · rename_i k' hc
      injection hp with hp
      injection h with h
      rw [hc, hp, h]
    · cases hp
  · cases h

/-! ## The decoder -/

/-- A payload decodes to a response that touches the three response registers only, or to the row's `unk`. -/
theorem decodePayload_spec (P : Params) (row : CmdRow) (p : Bytes) (s : State) :
    (∃ r, unpack P row.layout p = some r ∧ decodePayload P row p s = .ok (respond (.record r) (decodeNv row p) s)) ∨
    (unpack P row.layout p = none ∧ decodePayload P row p s = .error row.unk) := by
  unfold decodePayload
  cases h : unpack P row.layout p <;> simp

end Sys2Proof.Machine
end

