-- ==== Sys2Proof/Laws/Accept.lean ====
section
/-! SUPPORT. What the acceptance of a request can do: one case per form of response and per transition T0 of rule R221.
Every instruction has a next state, and it is one of these. -/

namespace Sys2Proof.Machine
open Host

/-- The ways a request is accepted in state `s` by an engine with the parameters `P`. -/
inductive Accepted (P : Params) (s : State) : State → Prop
  | refuseSingle (k : ErrorKind) : Accepted P s (raiseSingle k s)
  | answer (v : RVal) (nv : Option Bool) : Accepted P s (respond v nv s)
  | absorb (b : Byte) : Accepted P s (respond (.byte b) none (setAcc b s))
  | refuseMulti (k : ErrorKind) : Accepted P s (raiseMulti k s)
  | read (row : CmdRow) (c : Byte) (hrow : rowOf P.cmdtab c = some row) (hlen : row.rlen.isSome = true) :
      Accepted P s (goto .rdTry (latch .rd .pre c false s))
  | write (row : CmdRow) (c : Byte) (m : Mode) (nv : Bool) (wlen : Nat) (f : Bytes)
      (hrow : rowOf P.cmdtab c = some row) (hm : m = .wr ∨ m = .wrv) (hlen : row.wlen = some wlen)
      (hv : m = .wrv → row.verify.isSome = true) (hf : encFrame P row wlen nv s.opArgs = .ok f) :
      Accepted P s (goto .wrTry (loadWbuf f (latch m .write c nv s)))
  | modify (row : CmdRow) (c : Byte) (nv : Bool) (fs : List Field)
      (hrow : rowOf P.cmdtab c = some row) (hw : row.wlen.isSome = true) (hr : row.rlen = row.wlen)
      (hv : row.verify.isSome = true) (hc : collect P row.layout s.opArgs false = .ok fs) :
      Accepted P s (goto .rdTry (latch .rmw .pre c nv s))

theorem csComputeRequest_accepted (P : Params) (s : State) : Accepted P s (csComputeRequest P s) := by
  unfold csComputeRequest
  split
  · exact .answer _ _
  · exact .refuseSingle _

theorem csVerifyRequest_accepted (P : Params) (s : State) : Accepted P s (csVerifyRequest P s) := by
  unfold csVerifyRequest
  split
  · exact .answer _ _
  · exact .refuseSingle _

theorem csAppendRequest_accepted (P : Params) (s : State) : Accepted P s (csAppendRequest P s) := by
  unfold csAppendRequest
  split
  · exact .answer _ _
  · exact .refuseSingle _

theorem encRequest_accepted (P : Params) (cmd : Byte) (ch : Nat) (nv : Bool) (s : State) :
    Accepted P s (encRequest P cmd ch nv s) := by
  unfold encRequest
  split
  · exact .refuseSingle _
  · split
    · exact .refuseSingle _
    · split
      · exact .refuseSingle _
      · split
        · exact .refuseSingle _
        · exact .answer _ _

theorem decRequest_accepted (P : Params) (cmd : Byte) (ch : Nat) (s : State) :
    Accepted P s (decRequest P cmd ch s) := by
  unfold decRequest
  split
  · exact .refuseSingle _
  · rename_i row _
    split
    · exact .refuseSingle _
    · rename_i rlen _
      split
      · exact .refuseSingle _
      · split
        · rcases decodePayload_spec P row (pay s.opBytes rlen) s with ⟨r, -, h⟩ | ⟨-, h⟩ <;> rw [h]
          · exact .answer _ _
          · exact .refuseSingle _
        · exact .refuseSingle _

theorem acceptRd_accepted {P : Params} (hP : paramsWellFormed P = true) (cmd : Byte) (ch : Nat) (s : State) :
    Accepted P s (acceptRd P cmd ch s) := by
  unfold acceptRd
  split
  · exact .refuseMulti _
  · rename_i row hrow
    obtain ⟨hmem, -, hch⟩ := lookupRow_spec hrow
    split
    · exact .refuseMulti _
    · rename_i rlen hlen
      exact .read row _ (rowOf_effCode (paramsWellFormed_cmdtab hP) row hmem ch hch) (by simp [hlen])

theorem acceptWrite_accepted {P : Params} (hP : paramsWellFormed P = true) (m : Mode) (hm : m = .wr ∨ m = .wrv)
    (cmd : Byte) (ch : Nat) (nv : Bool) (s : State) :
    Accepted P s (acceptWrite P m cmd ch nv s) := by
  unfold acceptWrite
  split
  · exact .refuseMulti _
  · rename_i row hrow
    obtain ⟨hmem, -, hch⟩ := lookupRow_spec hrow
    split
    · exact .refuseMulti _
    · rename_i wlen hlen
      split
      · exact .refuseMulti _
      · rename_i hv
        split
        · exact .refuseMulti _
        · split
          · exact .refuseMulti _
          · rename_i f hf
            refine .write row _ m nv wlen f (rowOf_effCode (paramsWellFormed_cmdtab hP) row hmem ch hch) hm hlen ?_ hf
            intro hw
            rw [Option.isSome_iff_ne_none]
            exact fun hn => hv ⟨hw, hn⟩

theorem acceptRmw_accepted {P : Params} (hP : paramsWellFormed P = true) (cmd : Byte) (ch : Nat) (nv : Bool) (s : State) :
    Accepted P s (acceptRmw P cmd ch nv s) := by
  unfold acceptRmw
  split
  · exact .refuseMulti _
  · rename_i row hrow
    obtain ⟨hmem, -, hch⟩ := lookupRow_spec hrow
    split
    · exact .refuseMulti _
    · rename_i hd
      split
      · exact .refuseMulti _
      · split
        · exact .refuseMulti _
        · split
          · exact .refuseMulti _
          · rename_i fs hfs
            refine .modify row _ nv fs (rowOf_effCode (paramsWellFormed_cmdtab hP) row hmem ch hch) ?_ ?_ ?_ hfs
            · rw [Option.isSome_iff_ne_none]; exact fun h => hd (.inl h)
            · exact Decidable.byContradiction fun h => hd (.inr (.inl h))
            · rw [Option.isSome_iff_ne_none]; exact fun h => hd (.inr (.inr h))

/-- Every instruction has a next state, and it is one of the forms of `Accepted`. -/
theorem exec_accepted (i : Instr) (s : State) : ∃ t, exec i s = .next t ∧ Accepted defaults s t := by
  cases i
  case csInit => exact ⟨_, rfl, .absorb _⟩
  case csAbsorb => exact ⟨_, rfl, .absorb _⟩
  case csCompute => exact ⟨_, rfl, csComputeRequest_accepted ..⟩
  case csVerify => exact ⟨_, rfl, csVerifyRequest_accepted ..⟩
  case csAppend => exact ⟨_, rfl, csAppendRequest_accepted ..⟩
  all_goals
    first
    | exact ⟨_, rfl, encRequest_accepted ..⟩
    | exact ⟨_, rfl, decRequest_accepted ..⟩
    | exact ⟨_, rfl, acceptRd_accepted defaults_wellFormed ..⟩
    | exact ⟨_, rfl, acceptWrite_accepted defaults_wellFormed .wr (.inl rfl) ..⟩
    | exact ⟨_, rfl, acceptWrite_accepted defaults_wellFormed .wrv (.inr rfl) ..⟩
    | exact ⟨_, rfl, acceptRmw_accepted defaults_wellFormed ..⟩

/-- The acceptance of any request word has a next state, and it is one of the forms of `Accepted`. -/
theorem acceptWord_accepted (w : ReqWord) (s : State) : ∃ t, acceptWord w s = .next t ∧ Accepted defaults s t := by
  unfold acceptWord
  split
  · exact exec_accepted _ s
  · rcases refuseWord_spec w s with ⟨-, h⟩ | ⟨-, h⟩
    · exact ⟨_, rfl, h ▸ .refuseMulti _⟩
    · exact ⟨_, rfl, h ▸ .refuseSingle _⟩

end Sys2Proof.Machine
end

