-- ==== Sys2Proof/Laws/Transitions.lean ====
section
/-! SUPPORT. What one step of the machine can do: the lines of the transition table of rule R221 as a relation, and the
inversion lemmas of `fsmStep` and `step`. -/

namespace Sys2Proof.Machine
open Host

/-- The transitions of rule R221 after the acceptance of a request, with the two cases in which the engine stays where it
is (rule R312). -/
inductive Transition (P : Params) (s : State) : State → Prop
  | waits (h : s.st = .idle) : Transition P s s
  | t1 (h : s.st = .rdTry) (he : s.tries = s.n) : Transition P s (raiseMulti (exhaustKind s.lastfail) s)
  | readNever (h : s.st = .rdTry) (hlt : s.tries < s.n) (hn : (nextOverride s).rule = .never) : Transition P s s
  | t2a (row : CmdRow) (rlen : Nat) (a : Option Bytes) (s' : State) (h : s.st = .rdTry) (hlt : s.tries < s.n)
      (hrow : rowOf P.cmdtab s.cmdr = some row) (hlen : row.rlen = some rlen)
      (hm : memRead P s.cmdr (rlen + 1) s = some (a, s')) (ha : ∀ f, a = some f → f.length ≠ rlen + 1) :
      Transition P s (readFailed .comm s')
  | t2b (row : CmdRow) (rlen : Nat) (f : Bytes) (s' : State) (h : s.st = .rdTry) (hlt : s.tries < s.n)
      (hrow : rowOf P.cmdtab s.cmdr = some row) (hlen : row.rlen = some rlen)
      (hm : memRead P s.cmdr (rlen + 1) s = some (some f, s')) (hf : f.length = rlen + 1)
      (hv : verifyFrame f = false) : Transition P s (readFailed .corrupt (loadRbuf f s'))
  | t2c (row : CmdRow) (rlen : Nat) (f : Bytes) (s' : State) (h : s.st = .rdTry) (hlt : s.tries < s.n)
      (hrow : rowOf P.cmdtab s.cmdr = some row) (hlen : row.rlen = some rlen)
      (hm : memRead P s.cmdr (rlen + 1) s = some (some f, s')) (hf : f.length = rlen + 1)
      (hv : verifyFrame f = true) (hmode : s.mode = .rd) :
      Transition P s (readDecode P row rlen (loadRbuf f (countAttempt s')))
  | t2d (row : CmdRow) (rlen : Nat) (f g : Bytes) (s' : State) (h : s.st = .rdTry) (hlt : s.tries < s.n)
      (hrow : rowOf P.cmdtab s.cmdr = some row) (hlen : row.rlen = some rlen)
      (hm : memRead P s.cmdr (rlen + 1) s = some (some f, s')) (hf : f.length = rlen + 1)
      (hv : verifyFrame f = true) (hmode : s.mode = .rmw) (hphase : s.phase = .pre)
      (hg : mergeFrame P row (pay f rlen) s.nvr s.argr = .ok g) :
      Transition P s (goto .wrTry (startPhase .write (loadWbuf g (loadRbuf f (countAttempt s')))))
  | t2e (row : CmdRow) (rlen : Nat) (f : Bytes) (s' : State) (h : s.st = .rdTry) (hlt : s.tries < s.n)
      (hrow : rowOf P.cmdtab s.cmdr = some row) (hlen : row.rlen = some rlen)
      (hm : memRead P s.cmdr (rlen + 1) s = some (some f, s')) (hf : f.length = rlen + 1)
      (hv : verifyFrame f = true) (hmode : s.mode ≠ .rd) (hphase : s.phase = .back) :
      Transition P s (goto .cmp (loadRbuf f (countAttempt s')))
  | t3 (h : s.st = .rdWait) : Transition P s (rdWaitStep s)
  | t4 (h : s.st = .wrTry) (he : s.tries = s.n) : Transition P s (raiseMulti .communicationError s)
  | writeNever (h : s.st = .wrTry) (hlt : s.tries < s.n) (hn : (nextOverride s).rule = .never) : Transition P s s
  | t5a (s' : State) (h : s.st = .wrTry) (hlt : s.tries < s.n)
      (hm : memWrite P s.cmdr (writeFrame s) s = some (false, s')) :
      Transition P s (goto .wrWait (countAttempt s'))
  | t5b (s' : State) (h : s.st = .wrTry) (hlt : s.tries < s.n)
      (hm : memWrite P s.cmdr (writeFrame s) s = some (true, s')) (hmode : s.mode = .wr) :
      Transition P s (goto .done (respond .unit none (countAttempt s')))
  | t5c (s' : State) (h : s.st = .wrTry) (hlt : s.tries < s.n)
      (hm : memWrite P s.cmdr (writeFrame s) s = some (true, s')) (hmode : s.mode = .wrv ∨ s.mode = .rmw) :
      Transition P s (goto .rdTry (passTime Config.settle (setLastfail .comm (startPhase .back s'))))
  | t6 (h : s.st = .wrWait) : Transition P s (wrWaitStep s)
  | t7match (row : CmdRow) (c : Comparator) (wlen rlen : Nat) (h : s.st = .cmp) (hrow : rowOf P.cmdtab s.cmdr = some row)
      (hc : row.verify = some c) (hw : row.wlen = some wlen) (hr : row.rlen = some rlen)
      (hv : verifyMatch P Config.clockTol c (pay s.wbuf wlen) (pay s.rbuf rlen) = true) :
      Transition P s (goto .done (respond .unit none s))
  | t7fail (row : CmdRow) (c : Comparator) (wlen rlen : Nat) (h : s.st = .cmp) (hrow : rowOf P.cmdtab s.cmdr = some row)
      (hc : row.verify = some c) (hw : row.wlen = some wlen) (hr : row.rlen = some rlen)
      (hv : verifyMatch P Config.clockTol c (pay s.wbuf wlen) (pay s.rbuf rlen) = false) :
      Transition P s (raiseMulti .writeFailed (setRval .unit s))
  | t8 (h : s.st = .done) (ht : s.take = true) : Transition P s (takeResponse s)
  | untaken (h : s.st = .done) (ht : s.take = false) : Transition P s s

theorem readAttempt_transition {P : Params} {s t : State} (hst : s.st = .rdTry) (hlt : s.tries < s.n)
    (h : readAttempt P s = .next t) : Transition P s t := by
  unfold readAttempt at h
  split at h
  · cases h
  rename_i row hrow
  split at h
  · cases h
  rename_i rlen hlen
  split at h
  · rename_i hm
    cases h
    exact .readNever hst hlt (memRead_none.mp hm)
  rename_i a s' hm
  obtain ⟨-, hs'⟩ := memRead_spec hm
  have hmode : s'.mode = s.mode := by rw [hs']; rfl
  have hphase : s'.phase = s.phase := by rw [hs']; rfl
  have hnvr : s'.nvr = s.nvr := by rw [hs']; rfl
  have hargr : s'.argr = s.argr := by rw [hs']; rfl
  unfold readResult at h
  split at h
  · cases h
    exact .t2a row rlen none s' hst hlt hrow hlen hm (by simp)
  rename_i f
  split at h
  · rename_i hf
    cases h
    exact .t2a row rlen (some f) s' hst hlt hrow hlen hm (by rintro g ⟨⟩; exact hf)
  rename_i hf
  have hf : f.length = rlen + 1 := Decidable.not_not.mp hf
  split at h
  · rename_i hv
    unfold readClean at h
    simp only [loadRbuf_mode, countAttempt_mode, loadRbuf_phase, countAttempt_phase, hmode, hphase] at h
    split at h
    · rename_i hm1
      cases h
      exact .t2c row rlen f s' hst hlt hrow hlen hm hf hv hm1
    · rename_i hm1 hp1
      unfold readMerge at h
      simp only [loadRbuf_nvr, countAttempt_nvr, loadRbuf_argr, countAttempt_argr, loadRbuf_rbuf, hnvr, hargr] at h
      split at h
      · cases h
      · rename_i g hg
        cases h
        exact .t2d row rlen f g s' hst hlt hrow hlen hm hf hv hm1 hp1 hg
    · rename_i hp1 hm1
      cases h
      exact .t2e row rlen f s' hst hlt hrow hlen hm hf hv hm1 hp1
    · cases h
  · rename_i hv
    cases h
    exact .t2b row rlen f s' hst hlt hrow hlen hm hf (by simpa using hv)

theorem writeAttempt_transition {P : Params} {s t : State} (hst : s.st = .wrTry) (hlt : s.tries < s.n)
    (h : writeAttempt P s = .next t) : Transition P s t := by
  unfold writeAttempt at h
  split at h
  · rename_i hm
    cases h
    exact .writeNever hst hlt (memWrite_none.mp hm)
  · rename_i s' hm
    obtain ⟨d, -, hs'⟩ := memWrite_spec hm
    have hmode : s'.mode = s.mode := by rw [hs']; rfl
    unfold writeDone at h
    rw [hmode] at h
    split at h
    · rename_i hm1; cases h; exact .t5b s' hst hlt hm hm1
    · rename_i hm1; cases h; exact .t5c s' hst hlt hm (.inl hm1)
    · rename_i hm1; cases h; exact .t5c s' hst hlt hm (.inr hm1)
    · cases h
  · rename_i s' hm
    cases h
    exact .t5a s' hst hlt hm

/-- The inversion lemma of the engine: a next state comes from a line of rule R221. -/
theorem fsmStep_transition {P : Params} {s t : State} (h : fsmStep P s = .next t) : Transition P s t := by
  unfold fsmStep at h
  split at h <;> rename_i hst
  · cases h; exact .waits hst
  · unfold rdTryStep at h
    split at h
    · rename_i he; cases h; exact .t1 hst he
    · split at h
      · rename_i hlt; exact readAttempt_transition hst hlt h
      · cases h
  · cases h; exact .t3 hst
  · unfold wrTryStep at h
    split at h
    · rename_i he; cases h; exact .t4 hst he
    · split at h
      · rename_i hlt; exact writeAttempt_transition hst hlt h
      · cases h
  · cases h; exact .t6 hst
  · unfold cmpStep at h
    split at h
    · cases h
    rename_i row hrow
    split at h
    · rename_i c wlen rlen hc hw hr
      split at h
      · rename_i hv; cases h; exact .t7match row c wlen rlen hst hrow hc hw hr hv
      · rename_i hv; cases h; exact .t7fail row c wlen rlen hst hrow hc hw hr (by simpa using hv)
    · cases h
  · cases h
    unfold doneStep
    split
    · rename_i ht; exact .t8 hst ht
    · rename_i ht; exact .untaken hst (by simpa using ht)

/-- The inversion lemma of the machine: a step is a reset, a configuration write, the acceptance of a request, or a
transition of the engine. -/
theorem step_cases {s t : State} (h : step s = .next t) :
    (s.rst = true ∧ t = resetEngine s) ∨
    (s.rst = false ∧ ∃ w, s.cfgPort = some w ∧ t = configure w s) ∨
    (s.rst = false ∧ s.cfgPort = none ∧ s.st = .idle ∧ ∃ r rest, s.reqs = r :: rest ∧
      Accepted defaults { s with reqs := rest, opN := r.n, opArgs := r.args, opBytes := r.bytes } t) ∨
    (s.rst = false ∧ s.cfgPort = none ∧ Transition defaults s t) := by
  unfold step at h
  split at h
  · rename_i hr; cases h; exact .inl ⟨hr, rfl⟩
  rename_i hr
  have hr : s.rst = false := by simpa using hr
  split at h
  · rename_i w hw; cases h; exact .inr (.inl ⟨hr, w, hw, rfl⟩)
  rename_i hc
  split at h
  · rename_i hst
    unfold idleStep at h
    split at h
    · cases h; exact .inr (.inr (.inr ⟨hr, hc, .waits hst⟩))
    · rename_i w s' hf
      obtain ⟨r, rest, hreqs, -, rfl⟩ := fetch_spec hf
      obtain ⟨t', ht', ha⟩ := acceptWord_accepted w
        { s with reqs := rest, opN := r.n, opArgs := r.args, opBytes := r.bytes }
      rw [ht'] at h
      cases h
      exact .inr (.inr (.inl ⟨hr, hc, hst, r, rest, hreqs, ha⟩))
  · exact .inr (.inr (.inr ⟨hr, hc, fsmStep_transition h⟩))

end Sys2Proof.Machine
end

