-- ==== Sys2Proof/Laws/Engine.lean ====
section
/-! SUPPORT. The engine over any admissible parameters (rule R6): what its step can do, and that with the parameters of rule
R6 it is the machine: decoding a word to its instruction and serving it from its fields and the table agree (rule R89). -/

namespace Sys2Proof.Machine
open Host

/-! ## What a step can do -/

theorem resetFor_defaults : resetFor defaults = State.reset := rfl

theorem csServed_accepted {P : Params} {s t : State} (z : Bool) (h : Accepted P s t) : Accepted P s (csServed z s t) := by
  unfold csServed
  split
  · exact h
  · exact .refuseSingle _

theorem codecServed_accepted {P : Params} {s t : State} (w : ReqWord) (h : Accepted P s t) :
    Accepted P s (codecServed w s t) := by
  unfold codecServed
  split
  · exact .refuseSingle _
  · exact h

theorem transferServed_accepted {P : Params} {s t : State} (w : ReqWord) (h : Accepted P s t) :
    Accepted P s (transferServed w s t) := by
  unfold transferServed
  split
  · exact .refuseMulti _
  · exact h

/-- The acceptance of any request word is one of the forms of `Accepted`, for any admissible parameters. -/
theorem requestFor_accepted {P : Params} (hP : paramsWellFormed P = true) (w : ReqWord) (s : State) :
    Accepted P s (requestFor P w s) := by
  unfold requestFor
  split
  · exact csServed_accepted _ (.absorb _)
  · exact csServed_accepted _ (.absorb _)
  · exact csServed_accepted _ (csComputeRequest_accepted P s)
  · exact csServed_accepted _ (csVerifyRequest_accepted P s)
  · exact csServed_accepted _ (csAppendRequest_accepted P s)
  · exact codecServed_accepted _ (encRequest_accepted ..)
  · refine codecServed_accepted _ ?_
    split
    · exact .refuseSingle _
    · exact decRequest_accepted ..
  · refine transferServed_accepted _ ?_
    split
    · exact .refuseMulti _
    · exact acceptRd_accepted hP ..
  · exact transferServed_accepted _ (acceptWrite_accepted hP .wr (.inl rfl) ..)
  · exact transferServed_accepted _ (acceptWrite_accepted hP .wrv (.inr rfl) ..)
  · exact transferServed_accepted _ (acceptRmw_accepted hP ..)
  · exact .refuseSingle _

/-- The inversion lemma of the engine over any admissible parameters. -/
theorem stepFor_cases {P : Params} (hP : paramsWellFormed P = true) {s t : State} (h : stepFor P s = .next t) :
    (s.rst = true ∧ t = resetEngine s) ∨
    (s.rst = false ∧ ∃ w, s.cfgPort = some w ∧ t = configure w s) ∨
    (s.rst = false ∧ s.cfgPort = none ∧ s.st = .idle ∧ ∃ r rest, s.reqs = r :: rest ∧
      Accepted P { s with reqs := rest, opN := r.n, opArgs := r.args, opBytes := r.bytes } t) ∨
    (s.rst = false ∧ s.cfgPort = none ∧ Transition P s t) := by
  unfold stepFor at h
  split at h
  · rename_i hr; cases h; exact .inl ⟨hr, rfl⟩
  rename_i hr
  have hr : s.rst = false := by simpa using hr
  split at h
  · rename_i w hw; cases h; exact .inr (.inl ⟨hr, w, hw, rfl⟩)
  rename_i hc
  split at h
  · rename_i hst
    cases h
    unfold idleStepFor
    split
    · exact .inr (.inr (.inr ⟨hr, hc, .waits hst⟩))
    · rename_i w s' hf
      obtain ⟨r, rest, hreqs, -, rfl⟩ := fetch_spec hf
      exact .inr (.inr (.inl ⟨hr, hc, hst, r, rest, hreqs, requestFor_accepted hP w _⟩))
  · exact .inr (.inr (.inr ⟨hr, hc, fsmStep_transition h⟩))

/-! ## Decoding and serving from the table agree -/

/-- The request of an operation that names a command, from the word's fields. -/
def fieldsRequest (P : Params) : CmdOp → Bool → Byte → Nat → State → State
  | .enc, nv, cmd, ch, s => encRequest P cmd ch nv s
  | .dec, nv, cmd, ch, s => if nv then raiseSingle .badArgument s else decRequest P cmd ch s
  | .rd, nv, cmd, ch, s => if nv then raiseMulti .badArgument s else acceptRd P cmd ch s
  | .wr, nv, cmd, ch, s => acceptWrite P .wr cmd ch nv s
  | .wrv, nv, cmd, ch, s => acceptWrite P .wrv cmd ch nv s
  | .rmw, nv, cmd, ch, s => acceptRmw P cmd ch nv s

/-- `BadArgument` of an operation that names a command. -/
def opRefused : CmdOp → State → State
  | .enc, s => raiseSingle .badArgument s
  | .dec, s => raiseSingle .badArgument s
  | _, s => raiseMulti .badArgument s

theorem fieldsRequest_no_row (op : CmdOp) (nv : Bool) (cmd : Byte) (ch : Nat) (s : State)
    (h : lookupRow cmdtab cmd ch = none) : fieldsRequest defaults op nv cmd ch s = opRefused op s := by
  have h : lookupRow defaults.cmdtab cmd ch = none := h
  cases op <;> cases nv <;>
    simp [fieldsRequest, opRefused, encRequest, decRequest, acceptRd, acceptWrite, acceptRmw, h]

/-- A row of the default table, with a channel it has. -/
theorem cmdtab_cases {P : CmdRow → Nat → Prop} (h0 : P rowStatus 0) (h1 : P rowBatteryTemperature 0) (h2 : P rowIoCurrent 0)
    (h3 : P rowChargingConfig 0) (h4 : P rowPowerOff 0) (h5 : ∀ ch < 3, P rowButtonConfig ch)
    (h6 : ∀ ch < 2, P rowPwmDuty ch) (h7 : P rowRtcTime 0) (h8 : P rowRtcAlarm 0) :
    ∀ row ∈ cmdtab, ∀ ch < row.chans, P row ch := by
  intro row hr ch hc
  simp only [cmdtab, List.mem_cons, List.not_mem_nil, or_false] at hr
  rcases hr with rfl | rfl | rfl | rfl | rfl | rfl | rfl | rfl | rfl
  · obtain rfl : ch = 0 := Nat.lt_one_iff.mp hc
    exact h0
  · obtain rfl : ch = 0 := Nat.lt_one_iff.mp hc
    exact h1
  · obtain rfl : ch = 0 := Nat.lt_one_iff.mp hc
    exact h2
  · obtain rfl : ch = 0 := Nat.lt_one_iff.mp hc
    exact h3
  · obtain rfl : ch = 0 := Nat.lt_one_iff.mp hc
    exact h4
  · exact h5 ch hc
  · exact h6 ch hc
  · obtain rfl : ch = 0 := Nat.lt_one_iff.mp hc
    exact h7
  · obtain rfl : ch = 0 := Nat.lt_one_iff.mp hc
    exact h8

/-- What the decoder does with a row, a channel and `nv`, against the request of the same fields. -/
def RowServed (op : CmdOp) (nv : Bool) (row : CmdRow) (ch : Nat) : Prop :=
  ∀ s : State,
    (if serves row op = false then Outcome.next (opRefused op s)
     else if nv && !takesNv row op then Outcome.next (opRefused op s)
     else
      match cmdInstr op row.name ch nv with
      | some i => exec i s
      | none => Outcome.next (opRefused op s)) = .next (fieldsRequest defaults op nv row.code ch s)

theorem rowServed (op : CmdOp) (nv : Bool) : ∀ row ∈ cmdtab, ∀ ch < row.chans, RowServed op nv row ch := by
  apply cmdtab_cases (P := RowServed op nv)
  case h5 =>
    intro ch hc
    obtain rfl | rfl | rfl : ch = 0 ∨ ch = 1 ∨ ch = 2 := by omega
    all_goals cases op <;> cases nv <;> intro s <;> rfl
  case h6 =>
    intro ch hc
    obtain rfl | rfl : ch = 0 ∨ ch = 1 := by omega
    all_goals cases op <;> cases nv <;> intro s <;> rfl
  all_goals cases op <;> cases nv <;> intro s <;> rfl

/-- A word of an operation that names a command: its instruction, or its refusal, is what its fields and the table give. -/
theorem decodeCmd_served (op : CmdOp) (w : ReqWord) (s : State) :
    (match decodeCmd op w with
      | .ok i => exec i s
      | .error _ => Outcome.next (opRefused op s)) =
      .next (if w.getLsbD 8 then opRefused op s else fieldsRequest defaults op (wordNv w) (wordCmd w) (wordCh w) s) := by
  change _ = Outcome.next (if fieldZ w then opRefused op s
    else fieldsRequest defaults op (fieldNv w) (fieldCmd w) (fieldCh w) s)
  unfold decodeCmd
  generalize fieldZ w = z
  generalize fieldNv w = nv
  generalize fieldCmd w = cmd
  generalize fieldCh w = ch
  cases z
  case true => rfl
  simp only [Bool.false_eq_true, if_false]
  cases hl : lookup cmdtab cmd with
  | none =>
    rw [fieldsRequest_no_row op nv cmd ch s (by simp [lookupRow, hl])]
  | some row =>
    by_cases hc : row.chans ≤ ch
    · rw [fieldsRequest_no_row op nv cmd ch s (by simp [lookupRow, hl, Nat.not_lt.mpr hc])]
      simp [hc]
    · have hr : lookupRow cmdtab cmd ch = some row := by simp [lookupRow, hl, Nat.lt_of_not_le hc]
      obtain ⟨hm, rfl, hch⟩ := lookupRow_spec hr
      have := rowServed op nv row hm ch hch s
      simp only [hc, if_false]
      rw [← this]
      by_cases h1 : serves row op = false
      · simp [h1]
      · by_cases h2 : (nv && !takesNv row op) = true
        · simp [h1, h2]
        · simp only [h1, h2]
          cases cmdInstr op row.name ch nv <;> rfl

/-- A `CS` word: its instruction, or its refusal, is what its must-be-zero field gives. -/
theorem csWord_served (z : Prop) [Decidable z] (i : Instr) {e : Reject} {s t : State} {o : Outcome State Fault Refusal}
    (h : exec i s = .next t) (ho : o = .next (raiseSingle .badArgument s)) :
    (match (if z then .ok i else .error e : Except Reject Instr) with
      | .ok i => exec i s
      | .error _ => o) = .next (if z then t else raiseSingle .badArgument s) := by
  by_cases hz : z
  · simp only [if_pos hz, h]
  · simp only [if_neg hz, ho]

/-- The acceptance of a request word by its instruction is the engine's over the parameters of rule R6 (rule R89). -/
theorem acceptWord_eq (w : ReqWord) (s : State) : acceptWord w s = .next (requestFor defaults w s) := by
  have hop : fieldOp w = (w.extractLsb' 12 4).toNat := rfl
  have hlt : (w.extractLsb' 12 4).toNat < 16 := (w.extractLsb' 12 4).isLt
  have key : ∀ op, (match decodeCmd op w with
      | .ok i => exec i s
      | .error _ => Outcome.next (opRefused op s)) =
      .next (if w.getLsbD 8 then opRefused op s else fieldsRequest defaults op (wordNv w) (wordCmd w) (wordCh w) s) :=
    fun op => decodeCmd_served op w s
  unfold acceptWord decode requestFor refuseWord isXferWord csServed codecServed transferServed
  rw [hop]
  generalize hn : (w.extractLsb' 12 4).toNat = n at *
  match n, hlt with
  | 0, _ => rfl
  | 1, _ => simp only [decodeCs, beq_iff_eq]; exact csWord_served _ _ rfl rfl
  | 2, _ => simp only [beq_iff_eq]; exact csWord_served _ _ rfl rfl
  | 3, _ => simp only [decodeCs, beq_iff_eq]; exact csWord_served _ _ rfl rfl
  | 4, _ => simp only [decodeCs, beq_iff_eq]; exact csWord_served _ _ rfl rfl
  | 5, _ => simp only [decodeCs, beq_iff_eq]; exact csWord_served _ _ rfl rfl
  | 6, _ => exact key .enc
  | 7, _ => exact key .dec
  | 8, _ => exact key .rd
  | 9, _ => exact key .wr
  | 10, _ => exact key .wrv
  | 11, _ => exact key .rmw
  | 12, _ => rfl
  | 13, _ => rfl
  | 14, _ => rfl
  | 15, _ => rfl
  | k + 16, h => exact absurd h (by omega)

/-- The machine is the engine over the parameters of rule R6. -/
theorem step_eq_stepFor (s : State) : step s = stepFor defaults s := by
  have hidle : idleStep s = .next (idleStepFor defaults s) := by
    unfold idleStep idleStepFor
    cases fetch s with
    | none => rfl
    | some p => exact acceptWord_eq p.1 p.2
  cases hr : s.rst <;> cases hc : s.cfgPort <;> simp [step, stepFor, hr, hc, hidle]

end Sys2Proof.Machine
end

