-- ==== Sys2Proof/Laws/Operands.lean ====
section
/-! SUPPORT. What the conversion of operands can answer (rules R86, R93, R142, R143, R262 g). -/

namespace Sys2Proof.Machine

/-! ## The checks of a request's operands -/

/-- An accepted set of operands names no unknown group, and its fields are those of the layout's own groups, converted in
the layout's order. -/
theorem collect_ok {P : Params} {l : Layout} {args : Args} {all : Bool} {fs : List Field}
    (h : collect P l args all = .ok fs) :
    hasUnknown l args = false ∧
      convertGroups P l (if all then fillSlots l args else args) all (layoutGroups l) = .ok fs := by
  unfold collect at h
  split at h
  · split at h
    · cases h
    · split at h <;> cases h
  · rename_i hu
    exact ⟨by simpa using hu, h⟩

/-- A set of operands that names an unknown group is refused. -/
theorem collect_unknown {P : Params} {l : Layout} {args : Args} (all : Bool) (h : hasUnknown l args = true) :
    ∃ k, collect P l args all = .error k := by
  unfold collect
  rw [if_pos h]
  split
  · exact ⟨_, rfl⟩
  · split <;> exact ⟨_, rfl⟩

/-- Without unknown groups the order of the checks is the layout's (rule R143). -/
theorem collect_known {P : Params} {l : Layout} {args : Args} (all : Bool) (h : hasUnknown l args = false) :
    collect P l args all = convertGroups P l (if all then fillSlots l args else args) all (layoutGroups l) := by
  simp [collect, h]

/-- The error of a set of operands is that of the first group in the layout's order that fails: what its operand's
conversion answers, or the group's own error if it is missing or repeated (rules R143, R270). -/
theorem convertGroups_error {P : Params} {l : Layout} {args : Args} {all : Bool} {gs : List Group} {k : ErrorKind}
    (h : convertGroups P l args all gs = .error k) :
    ∃ pre g post fs, gs = pre ++ g :: post ∧ convertGroups P l args all pre = .ok fs ∧
      ((∃ o, (g, o) ∈ args ∧ convert P l g o = .error k) ∨ k = groupErr l g) := by
  induction gs with
  | nil => cases h
  | cons g gs ih =>
    unfold convertGroups at h
    split at h
    · rename_i hfil
      split at h
      · injection h with h
        exact ⟨[], g, gs, [], rfl, rfl, .inr h.symm⟩
      · rename_i ha
        obtain ⟨pre, g', post, fs, rfl, hpre, hk⟩ := ih h
        exact ⟨g :: pre, g', post, fs, rfl, by simp only [convertGroups, hfil, if_neg ha, hpre], hk⟩
    · rename_i g' o hfil
      have hmem : (g', o) ∈ args.filter (fun e => e.1 == g) := by rw [hfil]; exact List.mem_singleton.mpr rfl
      obtain ⟨hin, hgg⟩ := List.mem_filter.mp hmem
      obtain rfl : g' = g := by simpa using hgg
      split at h
      · rename_i k' hc
        injection h with h
        exact ⟨[], g', gs, [], rfl, rfl, .inl ⟨o, hin, h ▸ hc⟩⟩
      · rename_i fs1 hc
        split at h
        · rename_i k' hr
          injection h with h
          obtain ⟨pre, g2, post, fs, rfl, hpre, hk⟩ := ih (h ▸ hr)
          exact ⟨g' :: pre, g2, post, fs1 ++ fs, rfl, by simp only [convertGroups, hfil, hc, hpre], hk⟩
        · cases h
    · injection h with h
      exact ⟨[], g, gs, [], rfl, rfl, .inr h.symm⟩

/-- With every group required, accepted operands name every group. -/
theorem convertGroups_all {P : Params} {l : Layout} {args : Args} {gs : List Group} {fs : List Field}
    (h : convertGroups P l args true gs = .ok fs) : ∀ g ∈ gs, namesGroup args g = true := by
  induction gs generalizing fs with
  | nil => simp
  | cons g gs ih =>
    unfold convertGroups at h
    split at h
    · cases h
    · rename_i g' o hfil
      have hg : namesGroup args g = true := by
        have hmem : (g', o) ∈ args.filter (fun e => e.1 == g) := by rw [hfil]; exact List.mem_singleton.mpr rfl
        obtain ⟨hin, hgg⟩ := List.mem_filter.mp hmem
        exact List.any_eq_true.mpr ⟨_, hin, hgg⟩
      split at h
      · cases h
      · split at h
        · cases h
        · rename_i hr
          intro x hx
          rcases List.mem_cons.mp hx with rfl | hx
          · exact hg
          · exact ih hr x hx
    · cases h

/-- Every field of an accepted set of operands is a field of one of its entries. -/
theorem convertGroups_mem {P : Params} {l : Layout} {args : Args} {all : Bool} {gs : List Group} {fs : List Field}
    (h : convertGroups P l args all gs = .ok fs) :
    ∀ f ∈ fs, ∃ g o fs', g ∈ gs ∧ (g, o) ∈ args ∧ convert P l g o = .ok fs' ∧ f ∈ fs' := by
  induction gs generalizing fs with
  | nil => cases h; simp
  | cons g gs ih =>
    unfold convertGroups at h
    split at h
    · intro f hf
      split at h
      · cases h
      obtain ⟨g', o, fs', hg, r⟩ := ih h f hf
      exact ⟨g', o, fs', List.mem_cons_of_mem _ hg, r⟩
    · rename_i g' o hfil
      have hmem : (g', o) ∈ args.filter (fun e => e.1 == g) := by rw [hfil]; exact List.mem_singleton.mpr rfl
      obtain ⟨hin, hgg⟩ := List.mem_filter.mp hmem
      obtain rfl : g' = g := by simpa using hgg
      split at h
      · cases h
      · rename_i fs1 hc
        split at h
        · cases h
        · rename_i fs2 hr
          cases h
          intro f hf
          rcases List.mem_append.mp hf with hf | hf
          · exact ⟨g', o, fs1, List.mem_cons_self, hin, hc, hf⟩
          · obtain ⟨g2, o2, fs3, hg, r⟩ := ih hr f hf
            exact ⟨g2, o2, fs3, List.mem_cons_of_mem _ hg, r⟩
    · cases h

/-! ## The fields of a group -/

/-- The positions a group owns in its layout (rules R94 to R104): its fields, lowest first. -/
def groupSpans : Layout → Group → List (Nat × Nat)
  | .lStatus, .fault => [(0, 1)]
  | .lStatus, .button => [(1, 1)]
  | .lStatus, .battery => [(2, 2)]
  | .lStatus, .primaryInput => [(4, 2)]
  | .lStatus, .secondaryInput => [(6, 2)]
  | .lTemp, .temperature => [(0, 8)]
  | .lS16, .value => [(0, 16)]
  | .lCtrl, .enable => [(0, 1)]
  | .lU8, .delay => [(0, 8)]
  | .lDuty, .duty => [(0, 10)]
  | .lTime, .second => [(0, 6)]
  | .lTime, .minute => [(8, 6)]
  | .lTime, .hour => [(16, 5), (21, 1), (22, 1)]
  | .lTime, .weekday => [(24, 3)]
  | .lTime, .day => [(32, 5)]
  | .lTime, .month => [(40, 4)]
  | .lTime, .year => [(48, 7)]
  | .lAlarm, .second => [(0, 6)]
  | .lAlarm, .minute => [(8, 6), (49, 1)]
  | .lAlarm, .hour => [(16, 24), (50, 1)]
  | .lAlarm, .day => [(40, 7), (48, 1)]
  | .lPairs, .slot i => [(16 * i, 8), (16 * i + 8, 8)]
  | .fields fs, g => (fieldOf fs g).elim [] (fun f => [(f.pos, f.kind.width)])
  | _, _ => []

theorem uintField_span {pos w : Nat} {lo hi base : Int} {e : ErrorKind} {o : Operand} {fs : List Field}
    (h : uintField pos w lo hi base e o = .ok fs) : fs.map (fun f => (f.pos, f.w)) = [(pos, w)] := by
  cases o <;> simp only [uintField] at h <;> first | cases h | (split at h <;> cases h; rfl)

theorem signedField_span {pos n : Nat} {o : Operand} {fs : List Field} (h : signedField pos n o = .ok fs) :
    fs.map (fun f => (f.pos, f.w)) = [(pos, n)] := by
  cases o <;> simp only [signedField] at h <;> first | cases h | (split at h <;> cases h; rfl)

/-- A field kind converts an operand to one field, of its own width. -/
theorem kindField_span {pos : Nat} {k : FieldKind} {o : Operand} {fs : List Field} (h : kindField pos k o = .ok fs) :
    fs.map (fun f => (f.pos, f.w)) = [(pos, k.width)] := by
  cases k <;> simp only [kindField] at h
  case uint => exact uintField_span h
  case s8 => exact signedField_span h
  case s16 => exact signedField_span h
  case enum => unfold enumField at h; split at h <;> cases h; rfl
  all_goals
    cases o <;> simp only [flagField, dutyField, maskField] at h <;>
      first
      | (cases h; rfl)
      | cases h
      | (split at h <;> cases h; rfl)

theorem listedField_span {ls : List LayoutField} {g : Group} {o : Operand} {fs : List Field}
    (h : listedField ls g o = .ok fs) :
    fs.map (fun f => (f.pos, f.w)) = (fieldOf ls g).elim [] (fun f => [(f.pos, f.kind.width)]) := by
  unfold listedField at h
  split at h
  · rename_i f hf
    rw [hf]
    exact kindField_span h
  · cases h

/-- The fields an operand is converted to are the ones its group owns. -/
theorem convert_spans {P : Params} {l : Layout} {g : Group} {o : Operand} {fs : List Field} (h : convert P l g o = .ok fs) :
    fs.map (fun f => (f.pos, f.w)) = groupSpans l g := by
  cases l
  case fields => exact listedField_span h
  all_goals cases g
  all_goals dsimp only [convert] at h
  all_goals
    first
    | cases h
    | exact uintField_span h
    | exact signedField_span h
    | (cases o <;> simp only [flagField, batteryField, inputField, dutyField, timeHourField, alarmMinuteField,
        alarmHourField, hourSpec, alarmDayField, slotField, timeHourFields] at h <;>
        first
        | (cases h; rfl)
        | cases h
        | (split at h <;> first | (cases h; rfl) | cases h | (split at h <;> first | (cases h; rfl) | cases h)))

end Sys2Proof.Machine
end

