-- ==== Sys2Proof/Laws/PerInstr.lean ====
section
/-! SUPPORT. The per-instruction family `RowMatch`: every encoding has the fixed bits of its row of the opcode table (rule
R89). -/

namespace Sys2Proof.Laws.RowMatch

open Sys2Proof

/-- The fixed bits and their mask, as the opcode table states them for the row. -/
def tableRow : Instr → ReqWord × ReqWord
  | .csInit => (0x1000, 0xFFFF)
  | .csAbsorb _ => (0x2000, 0xFF00)
  | .csCompute => (0x3000, 0xFFFF)
  | .csVerify => (0x4000, 0xFFFF)
  | .csAppend => (0x5000, 0xFFFF)
  | .encStatus => (0x6040, 0xFFFF)
  | .decStatus => (0x7040, 0xFFFF)
  | .xferRdStatus => (0x8040, 0xFFFF)
  | .encBatteryTemperature => (0x6047, 0xFFFF)
  | .decBatteryTemperature => (0x7047, 0xFFFF)
  | .xferRdBatteryTemperature => (0x8047, 0xFFFF)
  | .encIoCurrent => (0x604F, 0xFFFF)
  | .decIoCurrent => (0x704F, 0xFFFF)
  | .xferRdIoCurrent => (0x804F, 0xFFFF)
  | .encChargingConfig _ => (0x6051, 0xF7FF)
  | .decChargingConfig => (0x7051, 0xFFFF)
  | .xferRdChargingConfig => (0x8051, 0xFFFF)
  | .xferWrChargingConfig _ => (0x9051, 0xF7FF)
  | .xferWrvChargingConfig _ => (0xA051, 0xF7FF)
  | .xferRmwChargingConfig _ => (0xB051, 0xF7FF)
  | .encPowerOff => (0x6062, 0xFFFF)
  | .decPowerOff => (0x7062, 0xFFFF)
  | .xferRdPowerOff => (0x8062, 0xFFFF)
  | .xferWrPowerOff => (0x9062, 0xFFFF)
  | .encButtonConfigSw1 => (0x606E, 0xFFFF)
  | .decButtonConfigSw1 => (0x706E, 0xFFFF)
  | .xferRdButtonConfigSw1 => (0x806E, 0xFFFF)
  | .xferWrButtonConfigSw1 => (0x906E, 0xFFFF)
  | .xferWrvButtonConfigSw1 => (0xA06E, 0xFFFF)
  | .xferRmwButtonConfigSw1 => (0xB06E, 0xFFFF)
  | .encButtonConfigSw2 => (0x626E, 0xFFFF)
  | .decButtonConfigSw2 => (0x726E, 0xFFFF)
  | .xferRdButtonConfigSw2 => (0x826E, 0xFFFF)
  | .xferWrButtonConfigSw2 => (0x926E, 0xFFFF)
  | .xferWrvButtonConfigSw2 => (0xA26E, 0xFFFF)
  | .xferRmwButtonConfigSw2 => (0xB26E, 0xFFFF)
  | .encButtonConfigSw3 => (0x646E, 0xFFFF)
  | .decButtonConfigSw3 => (0x746E, 0xFFFF)
  | .xferRdButtonConfigSw3 => (0x846E, 0xFFFF)
  | .xferWrButtonConfigSw3 => (0x946E, 0xFFFF)
  | .xferWrvButtonConfigSw3 => (0xA46E, 0xFFFF)
  | .xferRmwButtonConfigSw3 => (0xB46E, 0xFFFF)
  | .encPwmDuty1 => (0x6075, 0xFFFF)
  | .decPwmDuty1 => (0x7075, 0xFFFF)
  | .xferRdPwmDuty1 => (0x8075, 0xFFFF)
  | .xferWrPwmDuty1 => (0x9075, 0xFFFF)
  | .xferWrvPwmDuty1 => (0xA075, 0xFFFF)
  | .xferRmwPwmDuty1 => (0xB075, 0xFFFF)
  | .encPwmDuty2 => (0x6275, 0xFFFF)
  | .decPwmDuty2 => (0x7275, 0xFFFF)
  | .xferRdPwmDuty2 => (0x8275, 0xFFFF)
  | .xferWrPwmDuty2 => (0x9275, 0xFFFF)
  | .xferWrvPwmDuty2 => (0xA275, 0xFFFF)
  | .xferRmwPwmDuty2 => (0xB275, 0xFFFF)
  | .encRtcTime => (0x60B0, 0xFFFF)
  | .decRtcTime => (0x70B0, 0xFFFF)
  | .xferRdRtcTime => (0x80B0, 0xFFFF)
  | .xferWrRtcTime => (0x90B0, 0xFFFF)
  | .xferWrvRtcTime => (0xA0B0, 0xFFFF)
  | .xferRmwRtcTime => (0xB0B0, 0xFFFF)
  | .encRtcAlarm => (0x60B9, 0xFFFF)
  | .decRtcAlarm => (0x70B9, 0xFFFF)
  | .xferRdRtcAlarm => (0x80B9, 0xFFFF)
  | .xferWrRtcAlarm => (0x90B9, 0xFFFF)
  | .xferWrvRtcAlarm => (0xA0B9, 0xFFFF)
  | .xferRmwRtcAlarm => (0xB0B9, 0xFFFF)

/-- The encoding has the fixed bits of its row. -/
def Statement (i : Instr) : Prop := encode i &&& (tableRow i).2 = (tableRow i).1

theorem csInit : Statement .csInit := rfl
theorem csAbsorb (imm : Byte) : Statement (.csAbsorb imm) := by
  unfold Statement
  revert imm
  decide +kernel
theorem csCompute : Statement .csCompute := rfl
theorem csVerify : Statement .csVerify := rfl
theorem csAppend : Statement .csAppend := rfl
theorem encStatus : Statement .encStatus := rfl
theorem decStatus : Statement .decStatus := rfl
theorem xferRdStatus : Statement .xferRdStatus := rfl
theorem encBatteryTemperature : Statement .encBatteryTemperature := rfl
theorem decBatteryTemperature : Statement .decBatteryTemperature := rfl
theorem xferRdBatteryTemperature : Statement .xferRdBatteryTemperature := rfl
theorem encIoCurrent : Statement .encIoCurrent := rfl
theorem decIoCurrent : Statement .decIoCurrent := rfl
theorem xferRdIoCurrent : Statement .xferRdIoCurrent := rfl
theorem encChargingConfig (nv : Bool) : Statement (.encChargingConfig nv) := by cases nv <;> rfl
theorem decChargingConfig : Statement .decChargingConfig := rfl
theorem xferRdChargingConfig : Statement .xferRdChargingConfig := rfl
theorem xferWrChargingConfig (nv : Bool) : Statement (.xferWrChargingConfig nv) := by cases nv <;> rfl
theorem xferWrvChargingConfig (nv : Bool) : Statement (.xferWrvChargingConfig nv) := by cases nv <;> rfl
theorem xferRmwChargingConfig (nv : Bool) : Statement (.xferRmwChargingConfig nv) := by cases nv <;> rfl
theorem encPowerOff : Statement .encPowerOff := rfl
theorem decPowerOff : Statement .decPowerOff := rfl
theorem xferRdPowerOff : Statement .xferRdPowerOff := rfl
theorem xferWrPowerOff : Statement .xferWrPowerOff := rfl
theorem encButtonConfigSw1 : Statement .encButtonConfigSw1 := rfl
theorem decButtonConfigSw1 : Statement .decButtonConfigSw1 := rfl
theorem xferRdButtonConfigSw1 : Statement .xferRdButtonConfigSw1 := rfl
theorem xferWrButtonConfigSw1 : Statement .xferWrButtonConfigSw1 := rfl
theorem xferWrvButtonConfigSw1 : Statement .xferWrvButtonConfigSw1 := rfl
theorem xferRmwButtonConfigSw1 : Statement .xferRmwButtonConfigSw1 := rfl
theorem encButtonConfigSw2 : Statement .encButtonConfigSw2 := rfl
theorem decButtonConfigSw2 : Statement .decButtonConfigSw2 := rfl
theorem xferRdButtonConfigSw2 : Statement .xferRdButtonConfigSw2 := rfl
theorem xferWrButtonConfigSw2 : Statement .xferWrButtonConfigSw2 := rfl
theorem xferWrvButtonConfigSw2 : Statement .xferWrvButtonConfigSw2 := rfl
theorem xferRmwButtonConfigSw2 : Statement .xferRmwButtonConfigSw2 := rfl
theorem encButtonConfigSw3 : Statement .encButtonConfigSw3 := rfl
theorem decButtonConfigSw3 : Statement .decButtonConfigSw3 := rfl
theorem xferRdButtonConfigSw3 : Statement .xferRdButtonConfigSw3 := rfl
theorem xferWrButtonConfigSw3 : Statement .xferWrButtonConfigSw3 := rfl
theorem xferWrvButtonConfigSw3 : Statement .xferWrvButtonConfigSw3 := rfl
theorem xferRmwButtonConfigSw3 : Statement .xferRmwButtonConfigSw3 := rfl
theorem encPwmDuty1 : Statement .encPwmDuty1 := rfl
theorem decPwmDuty1 : Statement .decPwmDuty1 := rfl
theorem xferRdPwmDuty1 : Statement .xferRdPwmDuty1 := rfl
theorem xferWrPwmDuty1 : Statement .xferWrPwmDuty1 := rfl
theorem xferWrvPwmDuty1 : Statement .xferWrvPwmDuty1 := rfl
theorem xferRmwPwmDuty1 : Statement .xferRmwPwmDuty1 := rfl
theorem encPwmDuty2 : Statement .encPwmDuty2 := rfl
theorem decPwmDuty2 : Statement .decPwmDuty2 := rfl
theorem xferRdPwmDuty2 : Statement .xferRdPwmDuty2 := rfl
theorem xferWrPwmDuty2 : Statement .xferWrPwmDuty2 := rfl
theorem xferWrvPwmDuty2 : Statement .xferWrvPwmDuty2 := rfl
theorem xferRmwPwmDuty2 : Statement .xferRmwPwmDuty2 := rfl
theorem encRtcTime : Statement .encRtcTime := rfl
theorem decRtcTime : Statement .decRtcTime := rfl
theorem xferRdRtcTime : Statement .xferRdRtcTime := rfl
theorem xferWrRtcTime : Statement .xferWrRtcTime := rfl
theorem xferWrvRtcTime : Statement .xferWrvRtcTime := rfl
theorem xferRmwRtcTime : Statement .xferRmwRtcTime := rfl
theorem encRtcAlarm : Statement .encRtcAlarm := rfl
theorem decRtcAlarm : Statement .decRtcAlarm := rfl
theorem xferRdRtcAlarm : Statement .xferRdRtcAlarm := rfl
theorem xferWrRtcAlarm : Statement .xferWrRtcAlarm := rfl
theorem xferWrvRtcAlarm : Statement .xferWrvRtcAlarm := rfl
theorem xferRmwRtcAlarm : Statement .xferRmwRtcAlarm := rfl

end Sys2Proof.Laws.RowMatch
end

