-- ==== Sys2Proof/Machine/Requests.lean ====
section
/-! DEFINITION. The pseudo-requests: the document's named operations as requests (rule R111). Each is only a spelling. -/

namespace Sys2Proof.Machine

/-- `status.get_status()`: `XFER.RD STATUS n=DEFAULT_TRIES` (rule R111). -/
def getStatusRequest (P : Params) : Request :=
  { word := encode .xferRdStatus, n := P.defaultTries, args := [], bytes := [] }

/-- `power.set_power_off(delay_seconds)`: `XFER.WR POWER_OFF` (rule R111). -/
def setPowerOffRequest (P : Params) (delay : Int) : Request :=
  { word := encode .xferWrPowerOff, n := P.defaultTries, args := [(.delay, .int delay)], bytes := [] }

/-- `rtc_alarm.set_time(fields)`: `XFER.WRV RTC_TIME` (rule R111). -/
def setTimeRequest (P : Params) (fields : Args) : Request :=
  { word := encode .xferWrvRtcTime, n := P.defaultTries, args := fields, bytes := [] }

/-- `encode_with_checksum(payload)`: `CS.APPEND` (rule R111). -/
def appendRequest (P : Params) (p : Bytes) : Request :=
  { word := encode .csAppend, n := P.defaultTries, args := [], bytes := p }

/-- `verify(frame)`: `CS.VERIFY` (rule R111). -/
def verifyRequest (P : Params) (f : Bytes) : Request :=
  { word := encode .csVerify, n := P.defaultTries, args := [], bytes := f }

end Sys2Proof.Machine
end

