-- ==== Sys2Proof/Tests/Slice0.lean ====
section
/-! SUPPORT. The model's own tests: the well-formedness smoke tests, every constructor's word, one-step tests whose expected
results are the vectors of spec/95_test_vectors.md, and a witness for the hypotheses of every statement. -/

namespace Sys2Proof.Tests

set_option Elab.async false

open Sys2Proof Sys2Proof.Machine Sys2Proof.Claims Host

/-! ## Helpers -/

/-- The machine answers a next state that passes the check. -/
def nextIs (o : Outcome State Fault Refusal) (p : State → Bool) : Bool :=
  match o with
  | .next t => p t
  | _ => false

theorem nextIs_exists {o : Outcome State Fault Refusal} {p : State → Bool} (h : nextIs o p = true) :
    ∃ t, o = .next t ∧ p t = true := by
  cases o with
  | next t => exact ⟨t, rfl, h⟩
  | fault r => cases h
  | refused r => cases h

def withArgs (a : Args) : State := { State.reset with opArgs := a }
def withBytes (b : Bytes) : State := { State.reset with opBytes := b }
def withRequests (l : List Request) : State := { State.reset with reqs := l }
def ask (w : ReqWord) (n : Byte) (a : Args) (b : Bytes) : Request := { word := w, n := n, args := a, bytes := b }

/-- The answer to the next call. -/
def answer (r : AnswerRule) : Override := { before := [], rule := r }

/-- In `RD_TRY`, two attempts allowed. -/
def reading (m : Mode) (p : Phase) (c : Byte) (sc : List Override) : State :=
  { State.reset with st := .rdTry, mode := m, phase := p, cmdr := c, n := 2, script := sc }

/-- In `WR_TRY`, two attempts allowed, with the frame `f`. -/
def writing (m : Mode) (c : Byte) (f : Bytes) (sc : List Override) : State :=
  { State.reset with
    st := .wrTry, mode := m, phase := .write, cmdr := c, n := 2, wbuf := f, wlen := BitVec.ofNat 6 f.length, script := sc }

/-- In `CMP`, with the frame written and the frame read back. -/
def comparing (c : Byte) (f g : Bytes) : State :=
  { State.reset with
    st := .cmp, mode := .wrv, phase := .back, cmdr := c, n := 2, wbuf := f, wlen := BitVec.ofNat 6 f.length, rbuf := g,
    rlen := BitVec.ofNat 6 g.length }

def okFrame (f : Bytes) (t : State) : Bool := t.res == .noError && t.rval == .frame f
def okRecord (r : Args) (t : State) : Bool := t.res == .noError && t.rval == .record r
def kindIs (k : ErrorKind) (t : State) : Bool := t.res == k

/-- Every word is rejected for the reason. -/
def rejects (e : Reject) (l : List ReqWord) : Bool :=
  l.all (fun w => match decode w with
    | .ok _ => false
    | .error e' => e' == e)

/-- A row with a layout of its own: a current limit, a name, a selection. -/
def rowUsb : CmdRow :=
  { name := .other 1, group := .config, code := 0x20, chans := 1, rlen := some 2, wlen := some 2, nv := false,
    verify := some (.vmask [0xFF, 0x3F]), unk := .unknownConfig,
    layout := .fields [⟨.other 0, 0, .uint 10 100 900 .invalidUsbCurrentLimit⟩, ⟨.other 1, 10, .enum 2 [.label 7, .label 8, .label 9]⟩,
      ⟨.other 2, 12, .mask 3 .invalidTripPoint⟩, ⟨.other 3, 15, .flag⟩] }

/-- Admissible parameters other than the decided ones: a small frame, another year range, two commands at other codes. -/
def altered : Params :=
  { defaults with
    frameMax := 3, defaultTries := 1, yearMin := 1990, yearMax := 2080, yearBase := 1980, periodMin := 4, periodMax := 63,
    cmdtab := [{ rowPowerOff with name := .other 0, code := 0x10, chans := 4 }, rowUsb] }

/-- The clock at another code. -/
def movedClock : Params := { defaults with cmdtab := [{ rowRtcTime with code := 0x33 }] }

/-! ## WellFormed: an ill-formed term for each check -/

theorem test_wf_default_table : cmdtabWellFormed 31 cmdtab = true := by decide

theorem test_wf_default_actions : actionTableWellFormed actionTable = true := by decide +kernel

theorem test_wf_instr_unknown_command : instrWellFormed [] .encStatus = false := by decide

theorem test_wf_instr_channel : instrWellFormed [{ rowPwmDuty with chans := 1 }] .decPwmDuty2 = false := by decide

theorem test_wf_instr_nv :
    instrWellFormed [{ rowChargingConfig with nv := false }] (.encChargingConfig true) = false := by decide

theorem test_wf_request_bytes : requestWellFormed defaults (ask 0x3000 0 [] (List.replicate 33 0)) = false := by decide

theorem test_wf_row_no_channel : rowWellFormed 31 { rowStatus with chans := 0 } = false := by decide

theorem test_wf_row_five_channels : rowWellFormed 31 { rowStatus with chans := 5 } = false := by decide

theorem test_wf_row_code_range : rowWellFormed 31 { rowStatus with code := 0xFF, chans := 2 } = false := by decide

theorem test_wf_row_rlen_zero : rowWellFormed 31 { rowStatus with rlen := some 0 } = false := by decide

theorem test_wf_row_rlen_max : rowWellFormed 31 { rowStatus with rlen := some 32 } = false := by decide

theorem test_wf_row_layout_too_long : rowWellFormed 31 { rowIoCurrent with rlen := some 1 } = false := by decide

theorem test_wf_row_wlen_zero : rowWellFormed 31 { rowPowerOff with wlen := some 0 } = false := by decide

theorem test_wf_row_verify_needs_rlen : rowWellFormed 31 { rowChargingConfig with rlen := none } = false := by decide

theorem test_wf_row_verify_needs_wlen : rowWellFormed 31 { rowChargingConfig with wlen := none } = false := by decide

theorem test_wf_row_mask_length :
    rowWellFormed 31 { rowChargingConfig with verify := some (.vmask [0x81, 0xFF]) } = false := by decide

theorem test_wf_row_time_layout : rowWellFormed 31 { rowRtcAlarm with verify := some .timeFwd } = false := by decide

theorem test_wf_row_nv_group : rowWellFormed 31 { rowStatus with nv := true } = false := by decide

theorem test_wf_row_unk : rowWellFormed 31 { rowStatus with unk := .badArgument } = false := by decide

theorem test_wf_rows_overlap :
    cmdtabWellFormed 31 [rowButtonConfig, { rowPowerOff with code := 0x70 }] = false := by decide

theorem test_wf_kind_uint_too_wide : kindWellFormed (.uint 8 0 256 .badArgument) = false := by decide

theorem test_wf_kind_uint_error : kindWellFormed (.uint 8 0 255 .writeFailed) = false := by decide

theorem test_wf_kind_enum_too_many : kindWellFormed (.enum 1 [.label 0, .label 1, .label 2]) = false := by decide

theorem test_wf_kind_enum_repeated : kindWellFormed (.enum 1 [.label 0, .label 0]) = false := by decide

theorem test_wf_kind_mask_empty : kindWellFormed (.mask 0 .badArgument) = false := by decide

theorem test_wf_kind_mask_error : kindWellFormed (.mask 3 .noError) = false := by decide

theorem test_wf_layout_groups : layoutWellFormed (.fields [⟨.duty, 0, .flag⟩, ⟨.duty, 1, .flag⟩]) = false := by decide

theorem test_wf_row_layout :
    rowWellFormed 31 { rowUsb with layout := .fields [⟨.duty, 0, .mask 0 .badArgument⟩] } = false := by decide

theorem test_wf_row_fields_too_long :
    rowWellFormed 31 { rowUsb with layout := .fields [⟨.duty, 7, .duty10⟩] } = false := by decide

theorem test_wf_actions_scale :
    actionTableWellFormed [{ code := 0, name := .noFunc, scale := 1 }, { code := 1, name := .halt, scale := 0 }] = false := by decide

theorem test_wf_actions_codes :
    actionTableWellFormed [{ code := 0, name := .noFunc, scale := 1 }, { code := 0, name := .halt, scale := 1 }] = false := by decide

theorem test_wf_actions_names :
    actionTableWellFormed [{ code := 0, name := .noFunc, scale := 1 }, { code := 1, name := .noFunc, scale := 1 }] = false := by decide

theorem test_wf_actions_no_func : actionTableWellFormed [{ code := 1, name := .halt, scale := 10 }] = false := by decide

theorem test_wf_params : paramsWellFormed altered = true := by decide +kernel

theorem test_wf_params_frame_max_one : paramsWellFormed { defaults with frameMax := 1 } = false := by decide +kernel

theorem test_wf_params_frame_max_past_six_bits :
    paramsWellFormed { defaults with frameMax := 64 } = false := by decide +kernel

theorem test_wf_params_year_before_base :
    paramsWellFormed { defaults with yearMin := 1999 } = false := by decide +kernel

theorem test_wf_params_year_past_seven_bits :
    paramsWellFormed { defaults with yearMax := 2128 } = false := by decide +kernel

theorem test_wf_params_period_max : paramsWellFormed { defaults with periodMax := 64 } = false := by decide +kernel

theorem test_wf_params_command_table :
    paramsWellFormed { defaults with cmdtab := [rowStatus, rowStatus] } = false := by decide +kernel

theorem test_wf_params_action_table : paramsWellFormed { defaults with actions := [] } = false := by decide +kernel

/-! ## Decode: a word of every constructor, from the encodings of rules R120 to R226 -/

theorem test_decode_csInit : decode 0x1000 = .ok .csInit := rfl

theorem test_decode_csAbsorb : decode 0x20F7 = .ok (.csAbsorb 0xF7) := rfl

theorem test_decode_csCompute : decode 0x3000 = .ok .csCompute := rfl

theorem test_decode_csVerify : decode 0x4000 = .ok .csVerify := rfl

theorem test_decode_csAppend : decode 0x5000 = .ok .csAppend := rfl

theorem test_decode_encStatus : decode 0x6040 = .ok .encStatus := rfl

theorem test_decode_decStatus : decode 0x7040 = .ok .decStatus := rfl

theorem test_decode_xferRdStatus : decode 0x8040 = .ok .xferRdStatus := rfl

theorem test_decode_encBatteryTemperature : decode 0x6047 = .ok .encBatteryTemperature := rfl

theorem test_decode_decBatteryTemperature : decode 0x7047 = .ok .decBatteryTemperature := rfl

theorem test_decode_xferRdBatteryTemperature : decode 0x8047 = .ok .xferRdBatteryTemperature := rfl

theorem test_decode_encIoCurrent : decode 0x604F = .ok .encIoCurrent := rfl

theorem test_decode_decIoCurrent : decode 0x704F = .ok .decIoCurrent := rfl

theorem test_decode_xferRdIoCurrent : decode 0x804F = .ok .xferRdIoCurrent := rfl

theorem test_decode_encChargingConfig :
    decode 0x6051 = .ok (.encChargingConfig false) ∧ decode 0x6851 = .ok (.encChargingConfig true) := ⟨rfl, rfl⟩

theorem test_decode_decChargingConfig : decode 0x7051 = .ok .decChargingConfig := rfl

theorem test_decode_xferRdChargingConfig : decode 0x8051 = .ok .xferRdChargingConfig := rfl

theorem test_decode_xferWrChargingConfig :
    decode 0x9051 = .ok (.xferWrChargingConfig false) ∧ decode 0x9851 = .ok (.xferWrChargingConfig true) := ⟨rfl, rfl⟩

theorem test_decode_xferWrvChargingConfig :
    decode 0xA051 = .ok (.xferWrvChargingConfig false) ∧ decode 0xA851 = .ok (.xferWrvChargingConfig true) := ⟨rfl, rfl⟩

theorem test_decode_xferRmwChargingConfig :
    decode 0xB051 = .ok (.xferRmwChargingConfig false) ∧ decode 0xB851 = .ok (.xferRmwChargingConfig true) := ⟨rfl, rfl⟩

theorem test_decode_encPowerOff : decode 0x6062 = .ok .encPowerOff := rfl

theorem test_decode_decPowerOff : decode 0x7062 = .ok .decPowerOff := rfl

theorem test_decode_xferRdPowerOff : decode 0x8062 = .ok .xferRdPowerOff := rfl

theorem test_decode_xferWrPowerOff : decode 0x9062 = .ok .xferWrPowerOff := rfl

theorem test_decode_encButtonConfigSw1 : decode 0x606E = .ok .encButtonConfigSw1 := rfl

theorem test_decode_decButtonConfigSw1 : decode 0x706E = .ok .decButtonConfigSw1 := rfl

theorem test_decode_xferRdButtonConfigSw1 : decode 0x806E = .ok .xferRdButtonConfigSw1 := rfl

theorem test_decode_xferWrButtonConfigSw1 : decode 0x906E = .ok .xferWrButtonConfigSw1 := rfl

theorem test_decode_xferWrvButtonConfigSw1 : decode 0xA06E = .ok .xferWrvButtonConfigSw1 := rfl

theorem test_decode_xferRmwButtonConfigSw1 : decode 0xB06E = .ok .xferRmwButtonConfigSw1 := rfl

theorem test_decode_encButtonConfigSw2 : decode 0x626E = .ok .encButtonConfigSw2 := rfl

theorem test_decode_decButtonConfigSw2 : decode 0x726E = .ok .decButtonConfigSw2 := rfl

theorem test_decode_xferRdButtonConfigSw2 : decode 0x826E = .ok .xferRdButtonConfigSw2 := rfl

theorem test_decode_xferWrButtonConfigSw2 : decode 0x926E = .ok .xferWrButtonConfigSw2 := rfl

theorem test_decode_xferWrvButtonConfigSw2 : decode 0xA26E = .ok .xferWrvButtonConfigSw2 := rfl

theorem test_decode_xferRmwButtonConfigSw2 : decode 0xB26E = .ok .xferRmwButtonConfigSw2 := rfl

theorem test_decode_encButtonConfigSw3 : decode 0x646E = .ok .encButtonConfigSw3 := rfl

theorem test_decode_decButtonConfigSw3 : decode 0x746E = .ok .decButtonConfigSw3 := rfl

theorem test_decode_xferRdButtonConfigSw3 : decode 0x846E = .ok .xferRdButtonConfigSw3 := rfl

theorem test_decode_xferWrButtonConfigSw3 : decode 0x946E = .ok .xferWrButtonConfigSw3 := rfl

theorem test_decode_xferWrvButtonConfigSw3 : decode 0xA46E = .ok .xferWrvButtonConfigSw3 := rfl

theorem test_decode_xferRmwButtonConfigSw3 : decode 0xB46E = .ok .xferRmwButtonConfigSw3 := rfl

theorem test_decode_encPwmDuty1 : decode 0x6075 = .ok .encPwmDuty1 := rfl

theorem test_decode_decPwmDuty1 : decode 0x7075 = .ok .decPwmDuty1 := rfl

theorem test_decode_xferRdPwmDuty1 : decode 0x8075 = .ok .xferRdPwmDuty1 := rfl

theorem test_decode_xferWrPwmDuty1 : decode 0x9075 = .ok .xferWrPwmDuty1 := rfl

theorem test_decode_xferWrvPwmDuty1 : decode 0xA075 = .ok .xferWrvPwmDuty1 := rfl

theorem test_decode_xferRmwPwmDuty1 : decode 0xB075 = .ok .xferRmwPwmDuty1 := rfl

theorem test_decode_encPwmDuty2 : decode 0x6275 = .ok .encPwmDuty2 := rfl

theorem test_decode_decPwmDuty2 : decode 0x7275 = .ok .decPwmDuty2 := rfl

theorem test_decode_xferRdPwmDuty2 : decode 0x8275 = .ok .xferRdPwmDuty2 := rfl

theorem test_decode_xferWrPwmDuty2 : decode 0x9275 = .ok .xferWrPwmDuty2 := rfl

theorem test_decode_xferWrvPwmDuty2 : decode 0xA275 = .ok .xferWrvPwmDuty2 := rfl

theorem test_decode_xferRmwPwmDuty2 : decode 0xB275 = .ok .xferRmwPwmDuty2 := rfl

theorem test_decode_encRtcTime : decode 0x60B0 = .ok .encRtcTime := rfl

theorem test_decode_decRtcTime : decode 0x70B0 = .ok .decRtcTime := rfl

theorem test_decode_xferRdRtcTime : decode 0x80B0 = .ok .xferRdRtcTime := rfl

theorem test_decode_xferWrRtcTime : decode 0x90B0 = .ok .xferWrRtcTime := rfl

theorem test_decode_xferWrvRtcTime : decode 0xA0B0 = .ok .xferWrvRtcTime := rfl

theorem test_decode_xferRmwRtcTime : decode 0xB0B0 = .ok .xferRmwRtcTime := rfl

theorem test_decode_encRtcAlarm : decode 0x60B9 = .ok .encRtcAlarm := rfl

theorem test_decode_decRtcAlarm : decode 0x70B9 = .ok .decRtcAlarm := rfl

theorem test_decode_xferRdRtcAlarm : decode 0x80B9 = .ok .xferRdRtcAlarm := rfl

theorem test_decode_xferWrRtcAlarm : decode 0x90B9 = .ok .xferWrRtcAlarm := rfl

theorem test_decode_xferWrvRtcAlarm : decode 0xA0B9 = .ok .xferWrvRtcAlarm := rfl

theorem test_decode_xferRmwRtcAlarm : decode 0xB0B9 = .ok .xferRmwRtcAlarm := rfl

/-! ## Decode: the rejects, by name (vectors V-CS, V-ENC, V-XFER) -/

theorem test_reject_reserved_op : rejects .reservedOp [0x0000, 0xC000, 0xD051, 0xE000, 0xFFFF] = true := by decide

theorem test_reject_must_be_zero :
    rejects .mustBeZero [0x1001, 0x2100, 0x3001, 0x4800, 0x5100, 0x1800] = true := by decide

theorem test_reject_reserved_bit : rejects .reservedBit [0x8140, 0x6151] = true := by decide

theorem test_reject_unknown_command : rejects .unknownCommand [0x8041, 0x6000] = true := by decide

theorem test_reject_bad_channel : rejects .badChannel [0x866E, 0x8475, 0x666E] = true := by decide

theorem test_reject_wrong_direction : rejects .wrongDirection [0x9040, 0xA062, 0xB062] = true := by decide

theorem test_reject_nv_unsupported : rejects .nvUnsupported [0x8840, 0x98B0, 0x6862, 0x7851] = true := by decide

theorem test_table_word : decodeTableWord 16 0xA851 = some (.xferWrvChargingConfig true) := rfl

/-! ## CSG (vectors V-CS, program P1) -/

theorem test_csInit :
    nextIs (exec .csInit { State.reset with acc := 0x12 }) (fun t => t.acc == 0xFF && t.rval == .byte 0xFF) = true := by decide

theorem test_csAbsorb :
    nextIs (exec (.csAbsorb 0x12) State.reset) (fun t => t.acc == 0xED && t.rval == .byte 0xED) = true := by decide

theorem test_csCompute :
    nextIs (exec .csCompute (withBytes [0x12, 0x34, 0x56, 0x78])) (fun t => t.rval == .byte 0xF7 && t.acc == 0xFF) = true := by decide

theorem test_csCompute_33 : nextIs (exec .csCompute (withBytes (zeros 33))) (kindIs .badArgument) = true := by decide

theorem test_csVerify :
    nextIs (exec .csVerify (withBytes [0x34, 0x12, 0x56, 0x78, 0xF7])) (fun t => t.rval == .bool true) = true := by decide

theorem test_csVerify_flipped :
    nextIs (exec .csVerify (withBytes [0x13, 0x34, 0x56, 0x78, 0xF7])) (fun t => t.rval == .bool false) = true := by decide

theorem test_csAppend :
    nextIs (exec .csAppend (withBytes [0x12, 0x34, 0x56, 0x78])) (okFrame [0x12, 0x34, 0x56, 0x78, 0xF7]) = true := by decide

theorem test_csAppend_32 : nextIs (exec .csAppend (withBytes (zeros 32))) (kindIs .badArgument) = true := by decide

/-! ## ENC (vectors V-ENC, V-DUTY, V-TIME, V-ALARM) -/

theorem test_encStatus : nextIs (exec .encStatus (withArgs [])) (kindIs .badArgument) = true := by decide +kernel

theorem test_encBatteryTemperature :
    nextIs (exec .encBatteryTemperature (withArgs [])) (kindIs .badArgument) = true := by decide +kernel

theorem test_encIoCurrent : nextIs (exec .encIoCurrent (withArgs [])) (kindIs .badArgument) = true := by decide +kernel

theorem test_encChargingConfig :
    nextIs (exec (.encChargingConfig true) (withArgs [(.enable, .bool true)])) (okFrame [0x81, 0x7E]) = true := by decide +kernel

theorem test_encChargingConfig_plain :
    nextIs (exec (.encChargingConfig false) (withArgs [(.enable, .bool true)])) (okFrame [0x01, 0xFE]) = true := by decide +kernel

theorem test_encPowerOff :
    nextIs (exec .encPowerOff (withArgs [(.delay, .int 30)])) (okFrame [0x1E, 0xE1]) = true := by decide +kernel

theorem test_encPowerOff_error :
    nextIs (exec .encPowerOff (withArgs [(.delay, .int 256)])) (kindIs .badArgument) = true := by decide +kernel

theorem test_encButtonConfigSw1 :
    nextIs (exec .encButtonConfigSw1 (withArgs [(.slot 0, .action .powerOn 800), (.slot 1, .action .halt 20000), (.slot 2, .action (.userFunc 3) 7)])) (okFrame [0x01, 0x50, 0x03, 0xC8, 0x13, 0x07, 0x00, 0x00, 0x00, 0x00, 0x00, 0x00, 0x71]) = true := by decide +kernel

theorem test_encButtonConfigSw1_error :
    nextIs (exec .encButtonConfigSw1 (withArgs [(.slot 0, .action .powerOn 805)])) (kindIs .badArgument) = true := by decide +kernel

theorem test_encButtonConfigSw2 :
    nextIs (exec .encButtonConfigSw2 (withArgs [])) (okFrame [0x00, 0x00, 0x00, 0x00, 0x00, 0x00, 0x00, 0x00, 0x00, 0x00, 0x00, 0x00, 0xFF]) = true := by decide +kernel

theorem test_encButtonConfigSw2_error :
    nextIs (exec .encButtonConfigSw2 (withArgs [(.slot 0, .action .halt 25600)])) (kindIs .badArgument) = true := by decide +kernel

theorem test_encButtonConfigSw3 :
    nextIs (exec .encButtonConfigSw3 (withArgs [(.slot 0, .action .powerOn 800), (.slot 1, .action .halt 20000), (.slot 2, .action (.userFunc 3) 7)])) (okFrame [0x01, 0x50, 0x03, 0xC8, 0x13, 0x07, 0x00, 0x00, 0x00, 0x00, 0x00, 0x00, 0x71]) = true := by decide +kernel

theorem test_encPwmDuty1 :
    nextIs (exec .encPwmDuty1 (withArgs [(.duty, .int 67)])) (okFrame [0xAD, 0x02, 0x50]) = true := by decide +kernel

theorem test_encPwmDuty1_error :
    nextIs (exec .encPwmDuty1 (withArgs [(.duty, .int 101)])) (kindIs .invalidDutyCycle) = true := by decide +kernel

theorem test_encPwmDuty2 :
    nextIs (exec .encPwmDuty2 (withArgs [(.duty, .int 1)])) (okFrame [0x0A, 0x00, 0xF5]) = true := by decide +kernel

theorem test_encPwmDuty2_error :
    nextIs (exec .encPwmDuty2 (withArgs [(.duty, .int (-1))])) (kindIs .invalidDutyCycle) = true := by decide +kernel

theorem test_encRtcTime :
    nextIs (exec .encRtcTime (withArgs (timeArgs 5 30 (.pm 7) 2 9 11 2026))) (okFrame [0x05, 0x1E, 0x67, 0x02, 0x09, 0x0B, 0x1A, 0x99]) = true := by decide +kernel

theorem test_encRtcTime_error :
    nextIs (exec .encRtcTime (withArgs (timeArgs 60 0 (.h24 25) 1 1 1 2000))) (kindIs .invalidSecond) = true := by decide +kernel

theorem test_encRtcAlarm :
    nextIs (exec .encRtcAlarm (withArgs [(.second, .int 0), (.minute, .minuteOf 30), (.hour, .hourPair 7 19), (.day, .weekdayPair 2 3)])) (okFrame [0x00, 0x1E, 0x80, 0x00, 0x08, 0x06, 0x00, 0x6F]) = true := by decide +kernel

theorem test_encRtcAlarm_error :
    nextIs (exec .encRtcAlarm (withArgs [(.second, .int 0), (.minute, .minuteOf 0), (.hour, .hourPair 7 7), (.day, .everyDay)])) (kindIs .invalidHour) = true := by decide +kernel

/-! ## DEC (vectors S1 to S3, V-DEC, V-DUTY) -/

theorem test_decStatus :
    nextIs (exec .decStatus (withBytes [0xC3, 0x3C]))
      (okRecord [(.fault, .bool true), (.button, .bool true), (.battery, .battery .normal), (.primaryInput, .input .notPresent),
        (.secondaryInput, .input .present)]) = true := by decide +kernel

theorem test_decStatus_2 :
    nextIs (exec .decStatus (withBytes [0x58, 0xA7]))
      (okRecord [(.fault, .bool false), (.button, .bool false), (.battery, .battery .bat2), (.primaryInput, .input .in1),
        (.secondaryInput, .input .in1)]) = true := by decide +kernel

theorem test_decBatteryTemperature :
    nextIs (exec .decBatteryTemperature (withBytes [0x80, 0x7F]))
      (okRecord [(.temperature, .int (-128))]) = true := by decide +kernel

theorem test_decBatteryTemperature_error :
    nextIs (exec .decBatteryTemperature (withBytes [0x80, 0x7E])) (kindIs .dataCorrupted) = true := by decide +kernel

theorem test_decIoCurrent :
    nextIs (exec .decIoCurrent (withBytes [0x34, 0x12, 0xD9]))
      (okRecord [(.value, .int 4660)]) = true := by decide +kernel

theorem test_decIoCurrent_negative :
    nextIs (exec .decIoCurrent (withBytes [0x18, 0xFC, 0x1B]))
      (okRecord [(.value, .int (-1000))]) = true := by decide +kernel

theorem test_decChargingConfig :
    nextIs (exec .decChargingConfig (withBytes [0x7E, 0x81]))
      (fun t => okRecord [(.enable, .bool false)] t && t.rnv == some false) = true := by decide +kernel

theorem test_decChargingConfig_nv :
    nextIs (exec .decChargingConfig (withBytes [0x81, 0x7E]))
      (fun t => okRecord [(.enable, .bool true)] t && t.rnv == some true) = true := by decide +kernel

theorem test_decPowerOff :
    nextIs (exec .decPowerOff (withBytes [0x1E, 0xE1]))
      (okRecord [(.delay, .int 30)]) = true := by decide +kernel

theorem test_decPowerOff_error :
    nextIs (exec .decPowerOff (withBytes [0x1E])) (kindIs .badArgument) = true := by decide +kernel

theorem test_decButtonConfigSw1 :
    nextIs (exec .decButtonConfigSw1 (withBytes [0x01, 0x50, 0x03, 0xC8, 0x13, 0x07, 0x00, 0x00, 0x00, 0x00, 0x00, 0x00, 0x71]))
      (okRecord [(.slot 0, .action .powerOn 800), (.slot 1, .action .halt 20000), (.slot 2, .action (.userFunc 3) 7),
        (.slot 3, .action .noFunc 0), (.slot 4, .action .noFunc 0), (.slot 5, .action .noFunc 0)]) = true := by decide +kernel

theorem test_decButtonConfigSw1_error :
    nextIs (exec .decButtonConfigSw1 (withBytes [0x05, 0x00, 0x00, 0x00, 0x00, 0x00, 0x00, 0x00, 0x00, 0x00, 0x00, 0x00, 0xFA])) (kindIs .unknownConfig) = true := by decide +kernel

theorem test_decButtonConfigSw2 :
    nextIs (exec .decButtonConfigSw2 (withBytes [0x01, 0x50, 0x03, 0xC8, 0x13, 0x07, 0x00, 0x00, 0x00, 0x00, 0x00, 0x00, 0x71]))
      (okRecord [(.slot 0, .action .powerOn 800), (.slot 1, .action .halt 20000), (.slot 2, .action (.userFunc 3) 7),
        (.slot 3, .action .noFunc 0), (.slot 4, .action .noFunc 0), (.slot 5, .action .noFunc 0)]) = true := by decide +kernel

theorem test_decButtonConfigSw3 :
    nextIs (exec .decButtonConfigSw3 (withBytes [0x01, 0x50, 0x03, 0xC8, 0x13, 0x07, 0x00, 0x00, 0x00, 0x00, 0x00, 0x00, 0x71]))
      (okRecord [(.slot 0, .action .powerOn 800), (.slot 1, .action .halt 20000), (.slot 2, .action (.userFunc 3) 7),
        (.slot 3, .action .noFunc 0), (.slot 4, .action .noFunc 0), (.slot 5, .action .noFunc 0)]) = true := by decide +kernel

theorem test_decPwmDuty1 :
    nextIs (exec .decPwmDuty1 (withBytes [0xFF, 0x01, 0x01]))
      (okRecord [(.duty, .int 500)]) = true := by decide +kernel

theorem test_decPwmDuty1_unused_bits :
    nextIs (exec .decPwmDuty1 (withBytes [0xFF, 0xFF, 0xFF]))
      (okRecord [(.duty, .int 1000)]) = true := by decide +kernel

theorem test_decPwmDuty2 :
    nextIs (exec .decPwmDuty2 (withBytes [0x00, 0x02, 0xFD]))
      (okRecord [(.duty, .int 500)]) = true := by decide +kernel

theorem test_decRtcTime :
    nextIs (exec .decRtcTime (withBytes [0xC5, 0x9E, 0xE7, 0xFA, 0xE9, 0xFB, 0x9A, 0x31]))
      (okRecord (timeArgs 5 30 (.pm 7) 2 9 11 2026)) = true := by decide +kernel

theorem test_decRtcTime_error :
    nextIs (exec .decRtcTime (withBytes [0x00, 0x00, 0x20, 0x01, 0x01, 0x01, 0x00, 0xDE])) (kindIs .unknownData) = true := by decide +kernel

theorem test_decRtcAlarm :
    nextIs (exec .decRtcAlarm (withBytes [0x00, 0x1E, 0x80, 0x00, 0x08, 0x06, 0x00, 0x6F]))
      (okRecord [(.second, .int 0), (.minute, .minuteOf 30), (.hour, .hourPair 7 19), (.day, .weekdayPair 2 3)]) = true := by decide +kernel

theorem test_decRtcAlarm_error :
    nextIs (exec .decRtcAlarm (withBytes [0x00, 0x00, 0x03, 0x00, 0x00, 0x01, 0x04, 0xF9])) (kindIs .unknownData) = true := by decide +kernel

/-! ## XFER: acceptance (vectors V-XFER, programs P2 to P6) -/

theorem test_xferRdStatus :
    nextIs (exec .xferRdStatus State.reset) (fun t => t.st == .rdTry && t.mode == .rd && t.cmdr == 0x40) = true := by decide

theorem test_xferRdBatteryTemperature :
    nextIs (exec .xferRdBatteryTemperature State.reset) (fun t => t.st == .rdTry && t.mode == .rd && t.cmdr == 0x47) = true := by decide

theorem test_xferRdIoCurrent :
    nextIs (exec .xferRdIoCurrent State.reset) (fun t => t.st == .rdTry && t.mode == .rd && t.cmdr == 0x4F) = true := by decide

theorem test_xferRdChargingConfig :
    nextIs (exec .xferRdChargingConfig State.reset) (fun t => t.st == .rdTry && t.mode == .rd && t.cmdr == 0x51) = true := by decide

theorem test_xferWrChargingConfig :
    nextIs (exec (.xferWrChargingConfig false) (withArgs [(.enable, .bool true)]))
      (fun t => t.st == .wrTry && t.mode == .wr && t.cmdr == 0x51 && t.wbuf == [0x01, 0xFE]) = true := by decide +kernel

theorem test_xferWrvChargingConfig :
    nextIs (exec (.xferWrvChargingConfig false) (withArgs [(.enable, .bool true)]))
      (fun t => t.st == .wrTry && t.mode == .wrv && t.cmdr == 0x51 && t.wbuf == [0x01, 0xFE]) = true := by decide +kernel

theorem test_xferRmwChargingConfig :
    nextIs (exec (.xferRmwChargingConfig false) (withArgs [(.enable, .bool true)]))
      (fun t => t.st == .rdTry && t.mode == .rmw && t.phase == .pre && t.cmdr == 0x51) = true := by decide +kernel

theorem test_xferRdPowerOff :
    nextIs (exec .xferRdPowerOff State.reset) (fun t => t.st == .rdTry && t.mode == .rd && t.cmdr == 0x62) = true := by decide

theorem test_xferWrPowerOff :
    nextIs (exec .xferWrPowerOff (withArgs [(.delay, .int 30)]))
      (fun t => t.st == .wrTry && t.mode == .wr && t.cmdr == 0x62 && t.wbuf == [0x1E, 0xE1]) = true := by decide +kernel

theorem test_xferRdButtonConfigSw1 :
    nextIs (exec .xferRdButtonConfigSw1 State.reset) (fun t => t.st == .rdTry && t.mode == .rd && t.cmdr == 0x6E) = true := by decide

theorem test_xferWrButtonConfigSw1 :
    nextIs (exec .xferWrButtonConfigSw1 (withArgs [(.slot 0, .action .powerOn 800), (.slot 1, .action .halt 20000), (.slot 2, .action (.userFunc 3) 7)]))
      (fun t => t.st == .wrTry && t.mode == .wr && t.cmdr == 0x6E && t.wbuf == [0x01, 0x50, 0x03, 0xC8, 0x13, 0x07, 0x00, 0x00, 0x00, 0x00, 0x00, 0x00, 0x71]) = true := by decide +kernel

theorem test_xferWrvButtonConfigSw1 :
    nextIs (exec .xferWrvButtonConfigSw1 (withArgs [(.slot 0, .action .powerOn 800), (.slot 1, .action .halt 20000), (.slot 2, .action (.userFunc 3) 7)]))
      (fun t => t.st == .wrTry && t.mode == .wrv && t.cmdr == 0x6E && t.wbuf == [0x01, 0x50, 0x03, 0xC8, 0x13, 0x07, 0x00, 0x00, 0x00, 0x00, 0x00, 0x00, 0x71]) = true := by decide +kernel

theorem test_xferRmwButtonConfigSw1 :
    nextIs (exec .xferRmwButtonConfigSw1 (withArgs [(.slot 4, .action .noFunc 3)]))
      (fun t => t.st == .rdTry && t.mode == .rmw && t.phase == .pre && t.cmdr == 0x6E) = true := by decide +kernel

theorem test_xferRdButtonConfigSw2 :
    nextIs (exec .xferRdButtonConfigSw2 State.reset) (fun t => t.st == .rdTry && t.mode == .rd && t.cmdr == 0x6F) = true := by decide

theorem test_xferWrButtonConfigSw2 :
    nextIs (exec .xferWrButtonConfigSw2 (withArgs [(.slot 0, .action .powerOn 800), (.slot 1, .action .halt 20000), (.slot 2, .action (.userFunc 3) 7)]))
      (fun t => t.st == .wrTry && t.mode == .wr && t.cmdr == 0x6F && t.wbuf == [0x01, 0x50, 0x03, 0xC8, 0x13, 0x07, 0x00, 0x00, 0x00, 0x00, 0x00, 0x00, 0x71]) = true := by decide +kernel

theorem test_xferWrvButtonConfigSw2 :
    nextIs (exec .xferWrvButtonConfigSw2 (withArgs [(.slot 0, .action .powerOn 800), (.slot 1, .action .halt 20000), (.slot 2, .action (.userFunc 3) 7)]))
      (fun t => t.st == .wrTry && t.mode == .wrv && t.cmdr == 0x6F && t.wbuf == [0x01, 0x50, 0x03, 0xC8, 0x13, 0x07, 0x00, 0x00, 0x00, 0x00, 0x00, 0x00, 0x71]) = true := by decide +kernel

theorem test_xferRmwButtonConfigSw2 :
    nextIs (exec .xferRmwButtonConfigSw2 (withArgs [(.slot 4, .action .noFunc 3)]))
      (fun t => t.st == .rdTry && t.mode == .rmw && t.phase == .pre && t.cmdr == 0x6F) = true := by decide +kernel

theorem test_xferRdButtonConfigSw3 :
    nextIs (exec .xferRdButtonConfigSw3 State.reset) (fun t => t.st == .rdTry && t.mode == .rd && t.cmdr == 0x70) = true := by decide

theorem test_xferWrButtonConfigSw3 :
    nextIs (exec .xferWrButtonConfigSw3 (withArgs [(.slot 0, .action .powerOn 800), (.slot 1, .action .halt 20000), (.slot 2, .action (.userFunc 3) 7)]))
      (fun t => t.st == .wrTry && t.mode == .wr && t.cmdr == 0x70 && t.wbuf == [0x01, 0x50, 0x03, 0xC8, 0x13, 0x07, 0x00, 0x00, 0x00, 0x00, 0x00, 0x00, 0x71]) = true := by decide +kernel

theorem test_xferWrvButtonConfigSw3 :
    nextIs (exec .xferWrvButtonConfigSw3 (withArgs [(.slot 0, .action .powerOn 800), (.slot 1, .action .halt 20000), (.slot 2, .action (.userFunc 3) 7)]))
      (fun t => t.st == .wrTry && t.mode == .wrv && t.cmdr == 0x70 && t.wbuf == [0x01, 0x50, 0x03, 0xC8, 0x13, 0x07, 0x00, 0x00, 0x00, 0x00, 0x00, 0x00, 0x71]) = true := by decide +kernel

theorem test_xferRmwButtonConfigSw3 :
    nextIs (exec .xferRmwButtonConfigSw3 (withArgs [(.slot 4, .action .noFunc 3)]))
      (fun t => t.st == .rdTry && t.mode == .rmw && t.phase == .pre && t.cmdr == 0x70) = true := by decide +kernel

theorem test_xferRdPwmDuty1 :
    nextIs (exec .xferRdPwmDuty1 State.reset) (fun t => t.st == .rdTry && t.mode == .rd && t.cmdr == 0x75) = true := by decide

theorem test_xferWrPwmDuty1 :
    nextIs (exec .xferWrPwmDuty1 (withArgs [(.duty, .int 67)]))
      (fun t => t.st == .wrTry && t.mode == .wr && t.cmdr == 0x75 && t.wbuf == [0xAD, 0x02, 0x50]) = true := by decide +kernel

theorem test_xferWrvPwmDuty1 :
    nextIs (exec .xferWrvPwmDuty1 (withArgs [(.duty, .int 67)]))
      (fun t => t.st == .wrTry && t.mode == .wrv && t.cmdr == 0x75 && t.wbuf == [0xAD, 0x02, 0x50]) = true := by decide +kernel

theorem test_xferRmwPwmDuty1 :
    nextIs (exec .xferRmwPwmDuty1 (withArgs [(.duty, .int 50)]))
      (fun t => t.st == .rdTry && t.mode == .rmw && t.phase == .pre && t.cmdr == 0x75) = true := by decide +kernel

theorem test_xferRdPwmDuty2 :
    nextIs (exec .xferRdPwmDuty2 State.reset) (fun t => t.st == .rdTry && t.mode == .rd && t.cmdr == 0x76) = true := by decide

theorem test_xferWrPwmDuty2 :
    nextIs (exec .xferWrPwmDuty2 (withArgs [(.duty, .int 67)]))
      (fun t => t.st == .wrTry && t.mode == .wr && t.cmdr == 0x76 && t.wbuf == [0xAD, 0x02, 0x50]) = true := by decide +kernel

theorem test_xferWrvPwmDuty2 :
    nextIs (exec .xferWrvPwmDuty2 (withArgs [(.duty, .int 67)]))
      (fun t => t.st == .wrTry && t.mode == .wrv && t.cmdr == 0x76 && t.wbuf == [0xAD, 0x02, 0x50]) = true := by decide +kernel

theorem test_xferRmwPwmDuty2 :
    nextIs (exec .xferRmwPwmDuty2 (withArgs [(.duty, .int 50)]))
      (fun t => t.st == .rdTry && t.mode == .rmw && t.phase == .pre && t.cmdr == 0x76) = true := by decide +kernel

theorem test_xferRdRtcTime :
    nextIs (exec .xferRdRtcTime State.reset) (fun t => t.st == .rdTry && t.mode == .rd && t.cmdr == 0xB0) = true := by decide

theorem test_xferWrRtcTime :
    nextIs (exec .xferWrRtcTime (withArgs (timeArgs 5 30 (.pm 7) 2 9 11 2026)))
      (fun t => t.st == .wrTry && t.mode == .wr && t.cmdr == 0xB0 && t.wbuf == [0x05, 0x1E, 0x67, 0x02, 0x09, 0x0B, 0x1A, 0x99]) = true := by decide +kernel

theorem test_xferWrvRtcTime :
    nextIs (exec .xferWrvRtcTime (withArgs (timeArgs 5 30 (.pm 7) 2 9 11 2026)))
      (fun t => t.st == .wrTry && t.mode == .wrv && t.cmdr == 0xB0 && t.wbuf == [0x05, 0x1E, 0x67, 0x02, 0x09, 0x0B, 0x1A, 0x99]) = true := by decide +kernel

theorem test_xferRmwRtcTime :
    nextIs (exec .xferRmwRtcTime (withArgs [(.minute, .int 45)]))
      (fun t => t.st == .rdTry && t.mode == .rmw && t.phase == .pre && t.cmdr == 0xB0) = true := by decide +kernel

theorem test_xferRdRtcAlarm :
    nextIs (exec .xferRdRtcAlarm State.reset) (fun t => t.st == .rdTry && t.mode == .rd && t.cmdr == 0xB9) = true := by decide

theorem test_xferWrRtcAlarm :
    nextIs (exec .xferWrRtcAlarm (withArgs [(.second, .int 0), (.minute, .minuteOf 30), (.hour, .hourPair 7 19), (.day, .weekdayPair 2 3)]))
      (fun t => t.st == .wrTry && t.mode == .wr && t.cmdr == 0xB9 && t.wbuf == [0x00, 0x1E, 0x80, 0x00, 0x08, 0x06, 0x00, 0x6F]) = true := by decide +kernel

theorem test_xferWrvRtcAlarm :
    nextIs (exec .xferWrvRtcAlarm (withArgs [(.second, .int 0), (.minute, .minuteOf 30), (.hour, .hourPair 7 19), (.day, .weekdayPair 2 3)]))
      (fun t => t.st == .wrTry && t.mode == .wrv && t.cmdr == 0xB9 && t.wbuf == [0x00, 0x1E, 0x80, 0x00, 0x08, 0x06, 0x00, 0x6F]) = true := by decide +kernel

theorem test_xferRmwRtcAlarm :
    nextIs (exec .xferRmwRtcAlarm (withArgs [(.day, .everyDay)]))
      (fun t => t.st == .rdTry && t.mode == .rmw && t.phase == .pre && t.cmdr == 0xB9) = true := by decide +kernel

theorem test_xferWrRtcTime_hour_25 :
    nextIs (exec .xferWrRtcTime (withArgs (timeArgs 0 0 (.h24 25) 1 1 1 2000)))
      (fun t => t.st == .done && t.res == .invalidHour && t.trace == []) = true := by decide +kernel

theorem test_xferRmwRtcTime_weekday_9 :
    nextIs (exec .xferRmwRtcTime (withArgs [(.weekday, .int 9)])) (fun t => t.st == .done && t.res == .invalidWeekday) = true := by decide +kernel

theorem test_xferRmwChargingConfig_empty :
    nextIs (exec (.xferRmwChargingConfig false) State.reset) (fun t => t.st == .done && t.res == .badArgument) = true := by decide +kernel

/-! ## RAW: one step each (programs P2 to P5, vectors V-CMP) -/

theorem test_T2a :
    nextIs (step (reading .rd .pre 0x40 [answer .ioError]))
      (fun t => t.st == .rdWait && t.tries == 1 && t.lastfail == .comm && t.trace == [.read 0 0 0x40 2]) = true := by decide +kernel

theorem test_T2b :
    nextIs (step { reading .rd .pre 0x40 [answer (.corrupt 1 0x01)] with dev := [(0x40, [0xC3, 0x3C])] })
      (fun t => t.st == .rdWait && t.tries == 1 && t.lastfail == .corrupt && t.rbuf == [0xC3, 0x3D]) = true := by decide +kernel

theorem test_T2c :
    nextIs (step { reading .rd .pre 0x40 [answer .ideal] with dev := [(0x40, [0xC3, 0x3C])] })
      (fun t => t.st == .done && t.tries == 1 && t.res == .noError && t.rnv == none) = true := by decide +kernel

theorem test_T2d :
    nextIs (step { reading .rmw .pre 0x51 [answer .ideal] with dev := [(0x51, [0x7E, 0x81])], argr := [(.enable, .bool true)] })
      (fun t => t.st == .wrTry && t.phase == .write && t.wbuf == [0x7F, 0x80]) = true := by decide +kernel

theorem test_T1_corrupt :
    nextIs (step { reading .rd .pre 0x40 [] with tries := 2, lastfail := .corrupt })
      (fun t => t.st == .done && t.res == .dataCorrupted && t.trace == []) = true := by decide +kernel

theorem test_T5b :
    nextIs (step (writing .wr 0x62 [0x1E, 0xE1] [answer .ideal]))
      (fun t => t.st == .done && t.res == .noError && t.dev == [(0x62, [0x1E, 0xE1])]) = true := by decide +kernel

theorem test_T5c_lost :
    nextIs (step { writing .wrv 0x51 [0x81, 0x7E] [answer .lose] with dev := [(0x51, [0x00, 0xFF])] })
      (fun t => t.st == .rdTry && t.phase == .back && t.tries == 0 && t.dev == [(0x51, [0x00, 0xFF])]) = true := by decide +kernel

theorem test_T7_unused_bits :
    nextIs (step (comparing 0x51 [0x81, 0x7E] [0xBF, 0x40])) (fun t => t.st == .done && t.res == .noError) = true := by decide +kernel

theorem test_T7_lost_write :
    nextIs (step (comparing 0x51 [0x81, 0x7E] [0x00, 0xFF])) (fun t => t.st == .done && t.res == .writeFailed) = true := by decide +kernel

theorem test_tick :
    devChange defaults [(0xB0, [0x05, 0x2D, 0x67, 0x02, 0x09, 0x0B, 0x1A, 0xAA])] (.tick 2) =
      [(0xB0, [0x07, 0x2D, 0x67, 0x02, 0x09, 0x0B, 0x1A, 0xA8])] := by decide +kernel

theorem test_time_fwd :
    timeFwdMatch defaults 2 [0x05, 0x2D, 0x67, 0x02, 0x09, 0x0B, 0x1A] [0x07, 0x2D, 0x67, 0x02, 0x09, 0x0B, 0x1A] = true ∧
      timeFwdMatch defaults 2 [0x05, 0x2D, 0x67, 0x02, 0x09, 0x0B, 0x1A] [0x08, 0x2D, 0x67, 0x02, 0x09, 0x0B, 0x1A] = false := by decide +kernel

theorem test_time_fwd_mode :
    timeFwdMatch defaults 2 [0x05, 0x2D, 0x67, 0x02, 0x09, 0x0B, 0x1A] [0x07, 0x2D, 0x13, 0x02, 0x09, 0x0B, 0x1A] = false ∧
      timeFwdMatch defaults 2 [0x3A, 0x3B, 0x17, 0x07, 0x1F, 0x0C, 0x63] [0x39, 0x3B, 0x17, 0x07, 0x1F, 0x0C, 0x63] = false := by decide +kernel

/-! ## The engine with other parameters (rule R6) -/

theorem test_engine_other_code :
    nextIs (stepFor altered (withRequests [ask 0x6610 0 [(.delay, .int 30)] []])) (okFrame [0x1E, 0xE1]) = true := by decide +kernel

theorem test_engine_code_gone :
    nextIs (stepFor altered (withRequests [ask 0x6062 0 [(.delay, .int 30)] []])) (kindIs .badArgument) = true := by decide +kernel

theorem test_engine_transfer :
    nextIs (stepFor altered (withRequests [ask 0x8610 3 [] []])) (fun t => t.st == .rdTry && t.cmdr == 0x13) = true := by decide +kernel

theorem test_engine_frame_max :
    nextIs (stepFor altered (withRequests [ask 0x3000 0 [] (zeros 4)])) (kindIs .badArgument) = true := by decide +kernel

theorem test_engine_default : resetFor altered = { State.reset with opN := 1 } := rfl

theorem test_year_base :
    convert altered .lTime .year (.int 1990) = .ok [⟨48, 7, 10⟩] ∧
      convert altered .lAlarm .minute (.period 4) = .error .invalidPeriod := ⟨rfl, rfl⟩

theorem test_engine_other_layout :
    nextIs (stepFor altered (withRequests [ask 0x6020 0 [(.other 0, .int 900), (.other 1, .label 9), (.other 2, .pair 2 0), (.other 3, .bool true)] []]))
      (okFrame [0x84, 0xDB, 0xA0]) = true := by decide +kernel

theorem test_engine_other_layout_error :
    nextIs (stepFor altered (withRequests [ask 0x6020 0 [(.other 1, .label 9), (.other 0, .int 901)] []]))
      (kindIs .invalidUsbCurrentLimit) = true := by decide +kernel

theorem test_engine_other_layout_mask :
    nextIs (stepFor altered (withRequests [ask 0x9020 0 [(.other 0, .int 100), (.other 1, .label 7), (.other 2, .one 3),
      (.other 3, .bool true)] []])) (fun t => t.st == .done && t.res == .invalidTripPoint) = true := by decide +kernel

theorem test_engine_other_layout_decode :
    nextIs (stepFor altered (withRequests [ask 0x7020 0 [] [0x84, 0xDB, 0xA0]]))
      (okRecord [(.other 0, .int 900), (.other 1, .label 9), (.other 2, .pair 0 2), (.other 3, .bool true)]) = true := by decide +kernel

theorem test_engine_other_layout_unknown :
    nextIs (stepFor altered (withRequests [ask 0x7020 0 [] [0x84, 0xDF, 0xA4]])) (kindIs .unknownConfig) = true := by decide +kernel

theorem test_tick_moved_clock :
    devChange movedClock [(0x33, [0x05, 0x2D, 0x67, 0x02, 0x09, 0x0B, 0x1A, 0xAA])] (.tick 2) =
      [(0x33, [0x07, 0x2D, 0x67, 0x02, 0x09, 0x0B, 0x1A, 0xA8])] := by decide +kernel

theorem test_tick_no_clock :
    devChange altered [(0xB0, [0x05, 0x2D, 0x67, 0x02, 0x09, 0x0B, 0x1A, 0xAA])] (.tick 2) =
      [(0xB0, [0x05, 0x2D, 0x67, 0x02, 0x09, 0x0B, 0x1A, 0xAA])] := by decide +kernel

/-! ## Two operand errors: the earlier group in the layout's order wins (rule R270, D21) -/

theorem test_earlier_error_wins :
    nextIs (exec .encRtcTime (withArgs (timeArgs 60 0 (.h24 0) 1 1 1 2000).dropLast)) (kindIs .invalidSecond) = true := by decide +kernel

theorem test_earlier_missing_wins :
    nextIs (exec .encRtcTime (withArgs (timeArgs 0 60 (.h24 0) 1 1 1 2000).tail)) (kindIs .invalidSecond) = true := by decide +kernel

theorem test_first_fetch :
    nextIs (step (State.reset.withFetchWord 16 0x8040)) (fun t => t.st == .rdTry && t.n == 5) = true := by decide +kernel

/-! ## Witnesses: a state and operands that meet the hypotheses of each statement -/

theorem witness_DecodeEncodeRoundTrip : instrWellFormed cmdtab (.xferRmwChargingConfig true) = true := by decide

theorem witness_EncodeDecodeRoundTrip : decode 0xB851 = .ok (.xferRmwChargingConfig true) := rfl

theorem witness_DecodedWordsAreTheServedOnes : Served 0x20A5 := Or.inr (Or.inl (by decide))

theorem witness_StepRunsDecodedInstruction :
    ∃ s r rest i, Quiet s ∧ s.st = .idle ∧ s.reqs = r :: rest ∧ decode r.word = .ok i :=
  ⟨withRequests [ask 0x8040 3 [] []], ask 0x8040 3 [] [], [], .xferRdStatus, ⟨rfl, rfl⟩, rfl, rfl, rfl⟩

theorem witness_UndecodedWordAnswersBadArgument_transfer :
    ∃ s r rest e, Quiet s ∧ s.st = .idle ∧ s.reqs = r :: rest ∧ decode r.word = .error e ∧
      8 ≤ (r.word.extractLsb' 12 4).toNat ∧ (r.word.extractLsb' 12 4).toNat ≤ 11 :=
  ⟨withRequests [ask 0xB062 3 [] []], ask 0xB062 3 [] [], [], .wrongDirection, ⟨rfl, rfl⟩, rfl, rfl, rfl, by decide,
    by decide⟩

theorem witness_UndecodedWordAnswersBadArgument_other :
    ∃ s r rest e, Quiet s ∧ s.st = .idle ∧ s.reqs = r :: rest ∧ decode r.word = .error e ∧
      11 < (r.word.extractLsb' 12 4).toNat :=
  ⟨withRequests [ask 0xC000 3 [] []], ask 0xC000 3 [] [], [], .reservedOp, ⟨rfl, rfl⟩, rfl, rfl, rfl, by decide⟩

theorem witness_RequestsWaitWhileBusy : ∃ s t : State, s.st ≠ .idle ∧ step s = .next t ∧ s.reqs ≠ [] := by
  obtain ⟨t, h, -⟩ := nextIs_exists
    (o := step { reading .rd .pre 0x40 [answer .ioError] with reqs := [ask 0x1000 0 [] []] }) (p := fun _ => true)
    (by decide +kernel)
  exact ⟨_, t, by decide, h, by decide⟩

theorem witness_RunningFormAgrees :
    ∃ (s : State) (p q : Bytes), q.Perm p ∧ Quiet s ∧ s.st = .idle ∧ s.reqs = runningForm q ∧ p ≠ [] :=
  ⟨withRequests (runningForm [0x34, 0x12]), [0x12, 0x34], [0x34, 0x12], List.Perm.swap 0x12 0x34 [], ⟨rfl, rfl⟩, rfl, rfl,
    by decide⟩

theorem witness_CsWholeSequenceForms :
    (withBytes (zeros 32)).opBytes.length ≤ 32 ∧ 32 < (withBytes (zeros 33)).opBytes.length ∧
      (withBytes (zeros 31)).opBytes.length ≤ 31 ∧ (withBytes []).opBytes = [] ∧
      (withBytes (zeros 32)).opBytes = zeros 31 ++ [0] ∧ (zeros 31).length ≤ 31 := by decide

theorem witness_CsWholeSequenceForms_altered :
    (withBytes (zeros 3)).opBytes.length ≤ altered.frameMax ∧ altered.frameMax < (withBytes (zeros 4)).opBytes.length ∧
      (withBytes (zeros 3)).opBytes = zeros 2 ++ [0] ∧ (zeros 2).length < altered.frameMax := by decide

theorem witness_AppendedFrameVerifies : (zeros 31).length ≤ Config.frameMax - 1 := by decide

theorem witness_SingleByteChangeDetected :
    ∃ (f : Bytes) (k : Nat) (b : Byte) (h : k < f.length), verifyFrame f = true ∧ b ≠ f[k] :=
  ⟨[0x12, 0x34, 0xD9], 2, 0xD8, by decide, by decide, by decide⟩

theorem witness_ChecksumBlindSpots :
    ([0x34, 0x12] : Bytes).Perm [0x12, 0x34] ∧
      (List.zipWith (· ^^^ ·) ([0x12, 0x34, 0xD9] : Bytes) [0x13, 0x35, 0xD9]).foldl (· ^^^ ·) 0 = 0 ∧
      0 < 2 ∧ 2 < ([0x12, 0x34, 0xD9] : Bytes).length ∧ 7 < 8 :=
  ⟨List.Perm.swap 0x12 0x34 [], by decide, by decide, by decide, by decide⟩

theorem witness_OnlyCsInitAndAbsorbTouchAcc :
    ∃ s t : State, step s = .next t ∧ s.rst = false ∧ t.acc ≠ s.acc := by
  obtain ⟨t, h, hp⟩ := nextIs_exists (o := step (withRequests [ask 0x2012 0 [] []])) (p := fun t => t.acc == 0xED)
    (by decide +kernel)
  refine ⟨_, t, h, rfl, ?_⟩
  rw [eq_of_beq hp]
  decide

theorem witness_CodecChangesOnlyTheResponse : ∃ (i : Instr) (s t : State), IsPure i ∧ exec i s = .next t := by
  obtain ⟨t, h, -⟩ := nextIs_exists (o := exec .csCompute (withBytes [0x12])) (p := fun _ => true) (by decide +kernel)
  exact ⟨_, _, t, ⟨by decide, by decide⟩, h⟩

theorem witness_EncChargingConfigFrame : ∃ (s : State) (b : Bool), s.opArgs = [(.enable, .bool b)] :=
  ⟨withArgs [(.enable, .bool true)], true, rfl⟩

theorem witness_EncChargingConfigFrame_refused :
    (∀ b : Bool, (withArgs []).opArgs ≠ [(.enable, .bool b)]) ∧
      (∀ b : Bool, (withArgs [(.enable, .int 1)]).opArgs ≠ [(.enable, .bool b)]) ∧
      (∀ b : Bool, (withArgs [(.enable, .bool true), (.enable, .bool true)]).opArgs ≠ [(.enable, .bool b)]) := by decide

theorem witness_EncPowerOffAndDutyFrames :
    (withArgs [(.delay, .int (255 : Nat))]).opArgs = [(.delay, .int (255 : Nat))] ∧
      (withArgs [(.duty, .int (100 : Nat))]).opArgs = [(.duty, .int (100 : Nat))] := ⟨rfl, rfl⟩

theorem witness_EncPowerOffAndDutyFrames_refused :
    (∀ v : Nat, v ≤ 255 → (withArgs [(.delay, .int 256)]).opArgs ≠ [(.delay, .int v)]) ∧
      (∀ v : Nat, v ≤ 255 → (withArgs [(.delay, .bool true)]).opArgs ≠ [(.delay, .int v)]) ∧
      (∀ v : Nat, v ≤ 100 → (withArgs [(.duty, .int 101)]).opArgs ≠ [(.duty, .int v)]) ∧
      (∀ e ∈ (withArgs [(.duty, .int 101)]).opArgs, e.1 = .duty) ∧
      (∀ v : Nat, v ≤ 100 → (withArgs []).opArgs ≠ [(.duty, .int v)]) ∧ (∀ e ∈ (withArgs []).opArgs, e.1 = .duty) ∧
      (∃ e ∈ (withArgs [(.duty, .int 1), (.delay, .int 1)]).opArgs, e.1 ≠ .duty) := by
  refine ⟨?_, ?_, ?_, by decide, ?_, by decide, by decide⟩ <;> intro v hv h <;> simp [withArgs] at h <;> omega

theorem witness_EncButtonConfigFrame_six_pairs :
    ∃ (s : State) (pairs : List (ActionEntry × Byte)), pairs.length = 6 ∧ SlotForm s.opArgs pairs :=
  ⟨withArgs (slotArgs (List.replicate 6 (ActionEntry.mk 0x01 .powerOn 10, (0xFF : Byte)))),
    List.replicate 6 (ActionEntry.mk 0x01 .powerOn 10, (0xFF : Byte)), rfl, by decide,
    by intro e he; rw [List.eq_of_mem_replicate he]; decide +kernel, List.Perm.refl _⟩

theorem witness_EncButtonConfigFrame_reordered :
    SlotForm (withArgs [(.slot 1, .action .halt 100), (.slot 0, .action .powerOn 10)]).opArgs
      [(⟨0x01, .powerOn, 10⟩, 1), (⟨0x03, .halt, 100⟩, 1)] :=
  ⟨by decide, by decide +kernel, List.Perm.swap (Group.slot 0, Operand.action .powerOn 10) _ []⟩

theorem slotForm_names {args : Args} {pairs : List (ActionEntry × Byte)} (h : SlotForm args pairs) :
    (args.map (·.1)).Perm ((List.range args.length).map Group.slot) := by
  obtain ⟨-, -, h⟩ := h
  have hm : (slotArgs pairs).map (·.1) = (List.range pairs.length).map Group.slot := by
    exact List.ext_getElem (by simp [slotArgs]) (by simp [slotArgs])
  have hl : args.length = pairs.length := by simp [h.length_eq, slotArgs]
  rw [hl, ← hm]
  exact h.map _

theorem witness_EncButtonConfigFrame_gap :
    ¬ ∃ pairs, SlotForm (withArgs [(.slot 0, .action .noFunc 0), (.slot 2, .action .noFunc 0)]).opArgs pairs := by
  rintro ⟨pairs, h⟩
  exact absurd (slotForm_names h) (by decide)

theorem witness_EncButtonConfigFrame_repeated :
    ¬ ∃ pairs, SlotForm (withArgs [(.slot 0, .action .noFunc 0), (.slot 0, .action .noFunc 0)]).opArgs pairs := by
  rintro ⟨pairs, h⟩
  exact absurd (slotForm_names h) (by decide)

theorem witness_EncRtcTimeFrame :
    TimeHourForm (.am 12) 0x4C ∧ TimeHourForm (.pm 1) 0x61 ∧ TimeHourForm (.h24 23) 23 ∧
      (withArgs (timeArgs (59 : Nat) (59 : Nat) (.am 12) (7 : Nat) (31 : Nat) (12 : Nat) (2099 : Nat))).opArgs =
        timeArgs (59 : Nat) (59 : Nat) (.am 12) (7 : Nat) (31 : Nat) (12 : Nat) (2099 : Nat) :=
  ⟨.inr (.inl ⟨12, by decide, by decide, rfl, rfl⟩), .inr (.inr ⟨1, by decide, by decide, rfl, rfl⟩),
    .inl ⟨23, by decide, rfl, rfl⟩, rfl⟩

theorem witness_EncRtcTimeFirstErrorWins :
    { altered with cmdtab := cmdtab }.cmdtab = cmdtab ∧
      (withArgs (timeArgs 60 0 (.h24 25) 1 1 1 2000).dropLast).opArgs =
        given [(.second, some (.int 60)), (.minute, some (.int 0)), (.hour, some (.h24 25)), (.weekday, some (.int 1)),
          (.day, some (.int 1)), (.month, some (.int 1)), (.year, none)] ∧
      (withArgs []).opArgs =
        given [(.second, none), (.minute, none), (.hour, none), (.weekday, none), (.day, none), (.month, none),
          (.year, none)] := ⟨rfl, rfl, rfl⟩

theorem witness_EncRtcAlarmFrame :
    MinuteForm (.minuteOf 59) 59 0 ∧ MinuteForm (.period 60) 60 1 ∧ HourForm (.hourOf 23) (1 <<< 23) 0 ∧
      HourForm (.hourAm 12) 1 1 ∧ HourForm (.hourPm 12) (1 <<< 12) 1 ∧ HourForm (.hourPair 19 7) 0x080080 0 ∧
      HourForm .everyHour 0xFFFFFF 0 ∧ DayForm (.dayOfMonth 31) 31 1 ∧ DayForm (.weekdayOf 7) 0x40 0 ∧
      DayForm (.weekdayPair 2 3) 6 0 ∧ DayForm .everyDay 0x7F 0 :=
  ⟨.inl ⟨by decide, rfl, rfl⟩, .inr ⟨by decide, by decide, rfl, rfl⟩, .inl ⟨23, by decide, rfl, rfl, rfl⟩,
    .inr (.inl ⟨12, by decide, by decide, rfl, rfl, rfl⟩), .inr (.inr (.inl ⟨12, by decide, by decide, rfl, rfl, rfl⟩)),
    .inr (.inr (.inr (.inl ⟨19, 7, by decide, by decide, by decide, rfl, by decide, rfl⟩))),
    .inr (.inr (.inr (.inr ⟨rfl, rfl, rfl⟩))), .inl ⟨31, by decide, by decide, rfl, rfl, rfl⟩,
    .inr (.inl ⟨7, by decide, by decide, rfl, rfl, rfl⟩),
    .inr (.inr (.inl ⟨2, 3, by decide, by decide, by decide, by decide, by decide, rfl, by decide, rfl⟩)),
    .inr (.inr (.inr ⟨rfl, rfl, rfl⟩))⟩

theorem witness_EncRtcAlarmFrame_state :
    ∃ s : State, s.opArgs =
      [(.second, .int (59 : Nat)), (.minute, .period (60 : Nat)), (.hour, .hourPm (12 : Nat)), (.day, .dayOfMonth (31 : Nat))] :=
  ⟨withArgs [(.second, .int (59 : Nat)), (.minute, .period (60 : Nat)), (.hour, .hourPm (12 : Nat)),
    (.day, .dayOfMonth (31 : Nat))], rfl⟩

theorem witness_EncRtcAlarmFrame_errors :
    { altered with cmdtab := cmdtab }.cmdtab = cmdtab ∧
      (withArgs [(.second, .int 59), (.minute, .period 61), (.hour, .everyHour)]).opArgs =
        given [(.second, some (.int 59)), (.minute, some (.period 61)), (.hour, some .everyHour), (.day, none)] ∧
      alarmMinuteError 0 60 (.period 61) = some .invalidPeriod ∧ alarmDayError (.dayOfMonth 32) = some .invalidDay ∧
      alarmDayError (.weekdayOf 8) = some .invalidWeekday := ⟨rfl, rfl, rfl, rfl, rfl⟩

theorem witness_EncReadOnlyRefused : (Instr.encIoCurrent, (0x604F : ReqWord)) ∈ readOnlyEncs := by decide

theorem witness_DecodeOfEncodeIsTheOperands :
    ∃ c ∈ codecs, ∃ (s t : State) (f : Bytes), CanonicalArgs c.2.2.2.layout s.opArgs ∧ exec c.1 s = .next t ∧
      t.res = .noError ∧ t.rval = .frame f := by
  obtain ⟨t, h, hp⟩ := nextIs_exists
    (o := exec .encRtcAlarm
      (withArgs [(.second, .int 0), (.minute, .minuteOf 30), (.hour, .hourPair 7 19), (.day, .weekdayPair 2 3)]))
    (p := okFrame [0x00, 0x1E, 0x80, 0x00, 0x08, 0x06, 0x00, 0x6F]) (by decide +kernel)
  obtain ⟨h1, h2⟩ := (Bool.and_eq_true _ _ ▸ hp : (t.res == .noError) = true ∧ (t.rval == .frame _) = true)
  refine ⟨(.encRtcAlarm, .decRtcAlarm, false, rowRtcAlarm), by decide, _, t, _, ⟨rfl, ?_⟩, h, eq_of_beq h1, eq_of_beq h2⟩
  simp [withArgs, canonicalOperand]

theorem witness_DecChecksLengthThenChecksum :
    rowStatus.rlen ≠ some ((withBytes [0xC3]).opBytes.length - 1) ∧
      rowStatus.rlen = some ((withBytes [0xC3, 0x3D]).opBytes.length - 1) ∧ (withBytes [0xC3, 0x3D]).opBytes ≠ [] ∧
      verifyFrame (withBytes [0xC3, 0x3D]).opBytes = false := by decide

theorem witness_DecStatusAndNumericFields :
    (withBytes [0xC3, 0x3C]).opBytes = [0xC3, 0xFF ^^^ 0xC3] ∧
      (withBytes [0x18, 0xFC, 0x1B]).opBytes = [0x18, 0xFC, 0xFF ^^^ 0x18 ^^^ 0xFC] := by decide

theorem witness_DecPwmDutyTenths : (withBytes [0xFF, 0x01, 0x01]).opBytes = [0xFF, 0x01, 0xFF ^^^ 0xFF ^^^ 0x01] := by
  decide

theorem witness_DecButtonConfigSlots_known :
    ∃ (s : State) (p : Bytes) (es : List ActionEntry), p.length = 12 ∧ s.opBytes = appendCk p ∧ es.length = 6 ∧
      (∀ e ∈ es, e ∈ actionTable) ∧ ∀ k < 6, (es.map (·.code))[k]? = p[2 * k]? :=
  ⟨withBytes (appendCk [0x1F, 0xFF, 0x1F, 0xFF, 0x1F, 0xFF, 0x1F, 0xFF, 0x1F, 0xFF, 0x1F, 0xFF]),
    [0x1F, 0xFF, 0x1F, 0xFF, 0x1F, 0xFF, 0x1F, 0xFF, 0x1F, 0xFF, 0x1F, 0xFF],
    List.replicate 6 ⟨0x1F, .userFunc 15, 1⟩, rfl, rfl, rfl,
    by intro e he; rw [List.eq_of_mem_replicate he]; decide +kernel, by decide⟩

theorem witness_DecButtonConfigSlots_unknown :
    ∃ (s : State) (p : Bytes), p.length = 12 ∧ s.opBytes = appendCk p ∧
      ∃ k < 6, ∀ e ∈ actionTable, some e.code ≠ p[2 * k]? :=
  ⟨withBytes (appendCk [0, 0, 0, 0, 0, 0, 0, 0, 0, 0, 0x05, 0]), [0, 0, 0, 0, 0, 0, 0, 0, 0, 0, 0x05, 0], rfl, rfl, 5,
    by decide, by decide +kernel⟩

theorem witness_DecRtcTimeFields :
    ∃ (s : State) (b : Byte), s.opBytes = appendCk [b, b, b, b, b, b, b] :=
  ⟨withBytes (appendCk [5, 5, 5, 5, 5, 5, 5]), 5, rfl⟩

theorem witness_DecRtcAlarmFields_recognised :
    ∃ (s : State) (b0 b1 b2 b3 b4 b5 b6 : Byte) (minute hour day : Operand) (hour12 : Nat),
      s.opBytes = appendCk [b0, b1, b2, b3, b4, b5, b6] ∧ b0.toNat % 64 ≤ 59 ∧
      MinuteForm minute (b1.toNat % 64) (b6.getLsbD 1).toNat ∧
      HourForm hour (b2.toNat + 256 * b3.toNat + 65536 * b4.toNat) hour12 ∧
      (hour = .everyHour ∨ hour12 = (b6.getLsbD 2).toNat) ∧ DayForm day (b5.toNat % 128) (b6.getLsbD 0).toNat ∧
      canonicalOperand hour ∧ canonicalOperand day :=
  ⟨withBytes (appendCk [59, 60, 0xFF, 0xFF, 0xFF, 31, 0x07]), 59, 60, 0xFF, 0xFF, 0xFF, 31, 0x07, .period 60, .everyHour,
    .dayOfMonth 31, 0, rfl, by decide, .inr ⟨by decide, by decide, rfl, rfl⟩,
    .inr (.inr (.inr (.inr ⟨rfl, by decide, rfl⟩))), .inl rfl, .inl ⟨31, by decide, by decide, rfl, rfl, rfl⟩, trivial,
    trivial⟩

theorem witness_DecRtcAlarmFields_second :
    ∃ (s : State) (b0 : Byte), s.opBytes = appendCk [b0, 0, 1, 0, 0, 1, 0] ∧ 59 < b0.toNat % 64 :=
  ⟨withBytes (appendCk [60, 0, 1, 0, 0, 1, 0]), 60, rfl, by decide⟩

theorem witness_DecRtcAlarmFields_minute : ∀ minute, ¬ MinuteForm minute (61 % 64) ((0x02 : Byte).getLsbD 1).toNat := by
  rintro minute (⟨h, -⟩ | ⟨-, h, -⟩) <;> omega

theorem witness_DecRtcAlarmFields_day : ∀ day, ¬ DayForm day (0 % 128) ((0x01 : Byte).getLsbD 0).toNat := by
  rintro day (⟨d, h1, -, -, h2, -⟩ | ⟨d, -, -, -, -, h⟩ | ⟨a, b, -, -, -, -, -, -, -, h⟩ | ⟨-, h, -⟩)
  · omega
  · exact absurd h (by decide)
  · exact absurd h (by decide)
  · omega

theorem witness_DecRtcAlarmFields_hour :
    ∀ hour hour12, (hour = .everyHour ∨ hour12 = ((0x00 : Byte).getLsbD 2).toNat) → ¬ HourForm hour 0 hour12 := by
  rintro hour hour12 - (⟨h, hh, -, e, -⟩ | ⟨h, hh, -, -, e, -⟩ | ⟨h, hh, -, -, e, -⟩ | ⟨a, b, ha, hb, -, -, e, -⟩ | ⟨-, e, -⟩)
  · exact absurd e.symm (by simp [Nat.shiftLeft_eq])
  · exact absurd e.symm (by simp [Nat.shiftLeft_eq])
  · exact absurd e.symm (by simp [Nat.shiftLeft_eq])
  · exact absurd e.symm (by simp [Nat.shiftLeft_eq, Nat.or_eq_zero_iff])
  · omega

theorem witness_XferRdIsAccepted : (Instr.xferRdButtonConfigSw3, (0x70 : Byte)) ∈ reads := by decide

theorem witness_XferWrAndWrvAreAcceptedOrRefused :
    (Instr.xferWrPowerOff, false, rowPowerOff, (0x62 : Byte)) ∈ plainWrites ∧
      (Instr.xferWrvRtcTime, false, rowRtcTime, (0xB0 : Byte)) ∈ verifiedWrites ∧
      encFrame defaults rowPowerOff 1 false [(.delay, .int 255)] = .ok [0xFF, 0x00] ∧
      encFrame defaults rowPowerOff 1 false [(.delay, .int 256)] = .error .badArgument ∧
      encFrame defaults rowRtcTime 7 false (timeArgs 58 59 (.h24 23) 7 31 12 2099) =
        .ok [0x3A, 0x3B, 0x17, 0x07, 0x1F, 0x0C, 0x63, 0x9E] := ⟨by decide, by decide, rfl, rfl, rfl⟩

theorem witness_XferRmwIsAcceptedOrRefused :
    (Instr.xferRmwRtcTime, false, rowRtcTime, (0xB0 : Byte)) ∈ modifies ∧
      collect defaults .lTime [(.minute, .int 45)] false = .ok [⟨8, 6, 45⟩] ∧
      collect defaults .lTime [(.weekday, .int 9)] false = .error .invalidWeekday ∧ State.reset.opArgs = [] :=
  ⟨by decide, rfl, rfl, rfl⟩

theorem witness_RequestDependsOnItsOperandsOnly_transfer :
    ∃ (i : Instr) (s u s' u' : State), IsXfer i ∧ s.acc ≠ u.acc ∧ s.opN = u.opN ∧ s.opArgs = u.opArgs ∧
      s.opBytes = u.opBytes ∧ ((∃ imm, i = .csAbsorb imm) → s.acc = u.acc) ∧ exec i s = .next s' ∧ exec i u = .next u' :=
  ⟨.xferRdStatus, State.reset, { State.reset with acc := 9 }, _, _, ⟨by decide, by decide⟩, by decide, rfl, rfl, rfl,
    fun ⟨_, h⟩ => (by cases h), rfl, rfl⟩

theorem witness_RequestDependsOnItsOperandsOnly_single :
    ∃ (i : Instr) (s u s' u' : State), ¬ IsXfer i ∧ s.acc ≠ u.acc ∧ s.opN = u.opN ∧ s.opArgs = u.opArgs ∧
      s.opBytes = u.opBytes ∧ ((∃ imm, i = .csAbsorb imm) → s.acc = u.acc) ∧ exec i s = .next s' ∧ exec i u = .next u' :=
  ⟨.csInit, State.reset, { State.reset with acc := 9 }, _, _, fun h => absurd h.1 (by decide), by decide, rfl, rfl, rfl,
    fun ⟨_, h⟩ => (by cases h), rfl, rfl⟩

theorem witness_RequestDependsOnItsOperandsOnly_absorb :
    ∃ (i : Instr) (s u s' u' : State), ¬ IsXfer i ∧ s ≠ u ∧ s.opN = u.opN ∧ s.opArgs = u.opArgs ∧ s.opBytes = u.opBytes ∧
      (∃ imm, i = .csAbsorb imm) ∧ s.acc = u.acc ∧ exec i s = .next s' ∧ exec i u = .next u' :=
  ⟨.csAbsorb 1, State.reset, { State.reset with tries := 9 }, _, _, fun h => absurd h.1 (by decide), by decide, rfl, rfl,
    rfl, ⟨1, rfl⟩, rfl, rfl, rfl⟩

theorem witness_ExhaustedPhaseGivesUp :
    ∃ s u : State, Quiet s ∧ s.tries = s.n ∧ s.st = .rdTry ∧ s.lastfail = .corrupt ∧ Quiet u ∧ u.tries = u.n ∧ u.st = .wrTry :=
  ⟨{ reading .rd .pre 0x40 [] with tries := 2, lastfail := .corrupt }, { writing .wr 0x62 [0x1E, 0xE1] [] with tries := 2 },
    ⟨rfl, rfl⟩, rfl, rfl, rfl, ⟨rfl, rfl⟩, rfl, rfl⟩

theorem witness_FailedReadAttempt :
    ∃ s u v : State, ∃ f g : Bytes, (Quiet s ∧ s.st = .rdTry ∧ s.tries < s.n ∧ rowOf cmdtab s.cmdr = some rowStatus ∧
      rowStatus.rlen = some 1 ∧ readAnswer defaults s.cmdr 2 s = some none) ∧
      (Quiet u ∧ u.st = .rdTry ∧ u.tries < u.n ∧ rowOf cmdtab u.cmdr = some rowStatus ∧
        readAnswer defaults u.cmdr 2 u = some (some f) ∧ f.length ≠ 2) ∧
      (Quiet v ∧ v.st = .rdTry ∧ v.tries < v.n ∧ rowOf cmdtab v.cmdr = some rowStatus ∧
        readAnswer defaults v.cmdr 2 v = some (some g) ∧ g.length = 2 ∧ verifyFrame g = false) :=
  ⟨reading .rd .pre 0x40 [answer .ioError], reading .rd .pre 0x40 [answer (.reply [0xC3])],
    reading .rd .pre 0x40 [answer (.reply [0xC3, 0x3D])], [0xC3], [0xC3, 0x3D],
    ⟨⟨rfl, rfl⟩, rfl, by decide, by decide, rfl, rfl⟩, ⟨⟨rfl, rfl⟩, rfl, by decide, by decide, rfl, by decide⟩,
    ⟨⟨rfl, rfl⟩, rfl, by decide, by decide, rfl, rfl, by decide⟩⟩

theorem witness_CleanReadAnswersAsDec :
    ∃ d ∈ decs, ∃ (s u : State) (f : Bytes), Quiet s ∧ s.st = .rdTry ∧ s.mode = .rd ∧ s.tries < s.n ∧
      rowOf cmdtab s.cmdr = some d.2 ∧ d.2.rlen = some (f.length - 1) ∧ verifyFrame f = true ∧
      readAnswer defaults s.cmdr f.length s = some (some f) ∧ exec d.1 { s with opBytes := f } = .next u :=
  ⟨(.decStatus, rowStatus), by decide, reading .rd .pre 0x40 [answer (.reply [0xC3, 0x3C])], _, [0xC3, 0x3C], ⟨rfl, rfl⟩, rfl,
    rfl, by decide, by decide, rfl, by decide, rfl, rfl⟩

theorem witness_CleanPreReadIsMerged :
    ∃ (s : State) (f : Bytes) (fs : List Field), Quiet s ∧ s.st = .rdTry ∧ s.mode = .rmw ∧ s.phase = .pre ∧ s.tries < s.n ∧
      rowOf cmdtab s.cmdr = some rowChargingConfig ∧ rowChargingConfig.rlen = some 1 ∧ f.length = 2 ∧
      verifyFrame f = true ∧ readAnswer defaults s.cmdr 2 s = some (some f) ∧
      collect defaults rowChargingConfig.layout s.argr false = .ok fs :=
  ⟨{ reading .rmw .pre 0x51 [answer (.reply [0x7E, 0x81])] with argr := [(.enable, .bool true)] }, [0x7E, 0x81], [⟨0, 1, 1⟩],
    ⟨rfl, rfl⟩, rfl, rfl, rfl, by decide, by decide, rfl, rfl, by decide, rfl, rfl⟩

theorem witness_MergeKeepsUnnamedBits :
    collect defaults rowChargingConfig.layout [(.enable, .bool true)] false = .ok [⟨0, 1, 1⟩] ∧
      mergeFrame defaults rowChargingConfig [0x7E] false [(.enable, .bool true)] = .ok [0x7F, 0x80] ∧
      ¬ (0 ≤ 6 ∧ 6 < 0 + 1) ∧ rowChargingConfig.nv = true ∧ ([0x7E] : Bytes) ≠ [] :=
  ⟨rfl, rfl, by decide, rfl, by decide⟩

theorem witness_MergeKeepsUnnamedBits_other_layout :
    collect altered rowUsb.layout [(.other 0, .int 900)] false = .ok [⟨0, 10, 900⟩] ∧
      mergeFrame altered rowUsb [0xFF, 0xFF] false [(.other 0, .int 900)] = .ok [0x84, 0xFF, 0x84] := ⟨rfl, rfl⟩

theorem witness_CleanReadBackIsCompared :
    ∃ (s : State) (f : Bytes), Quiet s ∧ s.st = .rdTry ∧ (s.mode = .wrv ∨ s.mode = .rmw) ∧ s.phase = .back ∧ s.tries < s.n ∧
      rowOf cmdtab s.cmdr = some rowChargingConfig ∧ rowChargingConfig.rlen = some 1 ∧ f.length = 2 ∧
      verifyFrame f = true ∧ readAnswer defaults s.cmdr 2 s = some (some f) :=
  ⟨reading .wrv .back 0x51 [answer (.reply [0x81, 0x7E])], [0x81, 0x7E], ⟨rfl, rfl⟩, rfl, .inl rfl, rfl, by decide, by decide,
    rfl, rfl, by decide, rfl⟩

theorem witness_WriteAttempt :
    (∃ s : State, ∃ d, Quiet s ∧ s.st = .wrTry ∧ s.tries < s.n ∧
      writeAnswer defaults s.cmdr (s.wbuf.take s.wlen.toNat) s = some (false, d)) ∧
    (∃ s : State, ∃ d, Quiet s ∧ s.st = .wrTry ∧ s.tries < s.n ∧
      writeAnswer defaults s.cmdr (s.wbuf.take s.wlen.toNat) s = some (true, d) ∧ s.mode = .wr) ∧
    (∃ s : State, ∃ d, Quiet s ∧ s.st = .wrTry ∧ s.tries < s.n ∧
      writeAnswer defaults s.cmdr (s.wbuf.take s.wlen.toNat) s = some (true, d) ∧ (s.mode = .wrv ∨ s.mode = .rmw)) :=
  ⟨⟨writing .wr 0x62 [0x1E, 0xE1] [answer .ioError], _, ⟨rfl, rfl⟩, rfl, by decide, rfl⟩,
    ⟨writing .wr 0x62 [0x1E, 0xE1] [answer .ideal], _, ⟨rfl, rfl⟩, rfl, by decide, rfl, rfl⟩,
    ⟨writing .rmw 0x51 [0x81, 0x7E] [answer .lose], _, ⟨rfl, rfl⟩, rfl, by decide, rfl, .inr rfl⟩⟩

theorem witness_WaitsChangeNoRegister :
    ∃ s u : State, Quiet s ∧ s.st = .rdWait ∧ Quiet u ∧ u.st = .wrWait :=
  ⟨{ State.reset with st := .rdWait }, { State.reset with st := .wrWait }, ⟨rfl, rfl⟩, rfl, ⟨rfl, rfl⟩, rfl⟩

theorem witness_CompareDecides :
    ∃ s : State, Quiet s ∧ s.st = .cmp ∧ rowOf cmdtab s.cmdr = some rowChargingConfig ∧
      rowChargingConfig.verify = some (.vmask [0x81]) ∧ rowChargingConfig.wlen = some 1 ∧ rowChargingConfig.rlen = some 1 :=
  ⟨comparing 0x51 [0x81, 0x7E] [0xBF, 0x40], ⟨rfl, rfl⟩, rfl, by decide, rfl, rfl, rfl⟩

theorem witness_MaskedComparator :
    ([0x81] : Bytes).length = ([0xBF] : Bytes).length ∧ ([0x81] : Bytes).length = ([0x81] : Bytes).length ∧
      ([0xFF] : Bytes) = List.replicate ([0x81] : Bytes).length 0xFF := by decide

theorem witness_ClockComparator :
    (unpackTime defaults [0x3C, 0x2D, 0x67, 0x02, 0x09, 0x0B, 0x1A] = none) ∧
      unpackTime defaults [0x05, 0x2D, 0x67, 0x02, 0x09, 0x0B, 0x1A] = some ⟨5, 45, .pm 7, 2, 9, 11, 2026⟩ ∧
      unpackTime defaults [0x07, 0x2D, 0x67, 0x02, 0x09, 0x0B, 0x1A] = some ⟨7, 45, .pm 7, 2, 9, 11, 2026⟩ := by decide +kernel

theorem witness_EngineWaitsAndResponseIsTaken :
    (Quiet State.reset ∧ State.reset.st = .idle ∧ State.reset.reqs = []) ∧
    (∃ s : State, Quiet s ∧ s.st = .done ∧ s.take = false) ∧
    (∃ s : State, Quiet s ∧ s.st = .rdTry ∧ rowOf cmdtab s.cmdr = some rowStatus ∧ rowStatus.rlen = some 1 ∧ s.tries < s.n ∧
      (nextOverride s).rule = .never) ∧
    (∃ s : State, Quiet s ∧ s.st = .wrTry ∧ s.tries < s.n ∧ (nextOverride s).rule = .never) :=
  ⟨⟨⟨rfl, rfl⟩, rfl, rfl⟩, ⟨{ State.reset with st := .done, take := false }, ⟨rfl, rfl⟩, rfl, rfl⟩,
    ⟨reading .rd .pre 0x40 [answer .never], ⟨rfl, rfl⟩, rfl, by decide, rfl, by decide, rfl⟩,
    ⟨writing .wr 0x62 [0x1E, 0xE1] [answer .never], ⟨rfl, rfl⟩, rfl, by decide, rfl⟩⟩

theorem witness_WriteFailedIsFinal :
    ∃ s t u v : State, step s = .next t ∧ s.st = .cmp ∧ t.res = .writeFailed ∧ step u = .next v ∧ v.st = .wrTry := by
  obtain ⟨t, h, hp⟩ := nextIs_exists (o := step (comparing 0x51 [0x81, 0x7E] [0x00, 0xFF])) (p := kindIs .writeFailed)
    (by decide +kernel)
  obtain ⟨v, h', hq⟩ := nextIs_exists (o := step { writing .wr 0x62 [0x1E, 0xE1] [] with st := .wrWait })
    (p := fun t => t.st == .wrTry) (by decide +kernel)
  exact ⟨_, t, _, v, h, rfl, eq_of_beq hp, h', eq_of_beq hq⟩

theorem witness_comparing_inv : Inv (comparing 0x51 [0x81, 0x7E] [0xBF, 0x40]) :=
  ⟨by decide, by decide, by decide, by decide, by decide, by decide, by decide +kernel⟩

theorem witness_NoErrorNeedsACleanMatch :
    ∃ s t : State, Inv s ∧ step s = .next t ∧ (s.mode = .wrv ∨ s.mode = .rmw) ∧ s.st ≠ .idle ∧ s.st ≠ .done ∧ t.st = .done ∧
      t.res = .noError := by
  obtain ⟨t, h, hp⟩ := nextIs_exists (o := step (comparing 0x51 [0x81, 0x7E] [0xBF, 0x40]))
    (p := fun t => t.st == .done && t.res == .noError) (by decide +kernel)
  obtain ⟨h1, h2⟩ := (Bool.and_eq_true _ _ ▸ hp : (t.st == .done) = true ∧ (t.res == .noError) = true)
  exact ⟨_, t, witness_comparing_inv, h, .inl rfl, by decide, by decide, eq_of_beq h1, eq_of_beq h2⟩

theorem witness_NoCancellation :
    ∃ s t : State, step s = .next t ∧ s.rst = false ∧ s.st ≠ .idle ∧ s.st ≠ .done :=
  ⟨{ State.reset with st := .rdWait }, _, rfl, rfl, by decide, by decide⟩

theorem witness_AtMostOneCallPerStep :
    ∃ s t : State, step s = .next t ∧ t.trace = [.write 0 0 0x62 [0x1E, 0xE1]] := by
  obtain ⟨t, h, hp⟩ := nextIs_exists (o := step (writing .wr 0x62 [0x1E, 0xE1] [answer .ideal]))
    (p := fun t => t.trace == [.write 0 0 0x62 [0x1E, 0xE1]]) (by decide +kernel)
  exact ⟨_, t, h, eq_of_beq hp⟩

theorem witness_ConfigurationPort :
    ∃ s u : State, ∃ w, (s.rst = false ∧ s.cfgPort = some w ∧ s.st = .idle) ∧
      (u.rst = false ∧ u.cfgPort = some w ∧ u.st ≠ .idle) ∧ w.reg = .addr :=
  ⟨{ State.reset with cfgPort := some ⟨.addr, 7⟩ }, { State.reset with cfgPort := some ⟨.addr, 7⟩, st := .rdWait }, ⟨.addr, 7⟩,
    ⟨rfl, rfl, rfl⟩, ⟨rfl, rfl, by decide⟩, rfl⟩

theorem witness_UsbAndTripKindsAreNeverProduced :
    ∃ s t : State, step s = .next t ∧ (t.res = .invalidUsbCurrentLimit ∨ t.res = .invalidTripPoint) :=
  ⟨{ State.reset with res := .invalidTripPoint }, _, rfl, .inr rfl⟩

theorem witness_BoundedRetryOfARead :
    ∃ d ∈ decs, ∃ (s u : State) (f : Bytes) (k : Nat), Quiet s ∧ s.st = .rdTry ∧ s.mode = .rd ∧ s.phase = .pre ∧ s.tries = 0 ∧
      s.lastfail = .comm ∧ rowOf cmdtab s.cmdr = some d.2 ∧ d.2.rlen = some (f.length - 1) ∧ verifyFrame f = true ∧
      s.script = failsThen k (.reply f) ∧ exec d.1 { s with opBytes := f } = .next u ∧ k + 1 = s.n.toNat :=
  ⟨(.decStatus, rowStatus), by decide, reading .rd .pre 0x40 (failsThen 1 (.reply [0xC3, 0x3C])), _, [0xC3, 0x3C], 1,
    ⟨rfl, rfl⟩, rfl, rfl, rfl, rfl, rfl, by decide, rfl, by decide, rfl, rfl, by decide⟩

theorem witness_BoundedRetryOfARead_exhausted :
    ∃ d ∈ decs, ∃ (s u : State) (f : Bytes) (k : Nat), Quiet s ∧ s.st = .rdTry ∧ s.mode = .rd ∧ s.phase = .pre ∧ s.tries = 0 ∧
      s.lastfail = .comm ∧ rowOf cmdtab s.cmdr = some d.2 ∧ d.2.rlen = some (f.length - 1) ∧ verifyFrame f = true ∧
      s.script = failsThen k (.reply f) ∧ exec d.1 { s with opBytes := f } = .next u ∧ s.n.toNat = k :=
  ⟨(.decStatus, rowStatus), by decide, reading .rd .pre 0x40 (failsThen 2 (.reply [0xC3, 0x3C])), _, [0xC3, 0x3C], 2,
    ⟨rfl, rfl⟩, rfl, rfl, rfl, rfl, rfl, by decide, rfl, by decide, rfl, rfl, by decide⟩

theorem witness_BoundedRetryOfAWrite :
    ∃ (s u : State) (f : Bytes), (Quiet s ∧ s.st = .wrTry ∧ s.mode = .wr ∧ s.tries = 0 ∧
      s.script = failsThen 1 (.reply f) ∧ 1 < s.n.toNat) ∧
      (Quiet u ∧ u.st = .wrTry ∧ u.mode = .wr ∧ u.tries = 0 ∧ u.script = failsThen 2 (.reply f) ∧ u.n.toNat ≤ 2) :=
  ⟨writing .wr 0x62 [0x1E, 0xE1] (failsThen 1 (.reply [])), writing .wr 0x62 [0x1E, 0xE1] (failsThen 2 (.reply [])), [],
    ⟨⟨rfl, rfl⟩, rfl, rfl, rfl, rfl, by decide⟩, ⟨⟨rfl, rfl⟩, rfl, rfl, rfl, rfl, by decide⟩⟩

theorem witness_TransferTerminates :
    ∃ (i : Instr) (s0 s : State), IsXfer i ∧ Quiet s0 ∧ AllReturn s0 ∧ exec i s0 = .next s ∧ s.st = .rdTry ∧
      s0.script ≠ [] :=
  ⟨.xferRdStatus, { State.reset with script := [answer .ioError] }, _, ⟨by decide, by decide⟩, ⟨rfl, rfl⟩,
    by intro o ho; rw [List.mem_singleton.mp ho]; decide, rfl, rfl, by decide⟩

theorem witness_TransferTerminates_inv : Inv { State.reset with script := [answer .ioError] } :=
  ⟨by decide, by decide, by decide, by decide, by decide, by decide, by decide⟩

theorem witness_IdealDeviceStoresFrames :
    ∃ (s s1 : State) (rest : List Override), devWf s.dev = true ∧ ([0x1E, 0xE1] : Bytes) ≠ [] ∧
      s.script = { before := [], rule := .ideal } :: { before := [], rule := .ideal } :: rest ∧
      memWrite defaults 0x62 [0x1E, 0xE1] s = some (true, s1) ∧ (0x40 : Byte) ≠ 0x62 :=
  ⟨{ State.reset with script := [answer .ideal, answer .ideal], dev := [(0x40, [0xC3, 0x3C])] }, _, [], by decide, by decide,
    rfl, rfl, by decide⟩

theorem witness_ResetAbandonsTheRequest : ∃ s : State, s.rst = true ∧ s.st = .rdWait :=
  ⟨{ State.reset with rst := true, st := .rdWait }, rfl, rfl⟩

theorem witness_EveryStepKeepsTheInvariant : ∃ s t : State, Inv s ∧ s.st = .cmp ∧ step s = .next t := by
  obtain ⟨t, h, -⟩ := nextIs_exists (o := step (comparing 0x51 [0x81, 0x7E] [0xBF, 0x40])) (p := fun _ => true)
    (by decide +kernel)
  exact ⟨_, t, witness_comparing_inv, rfl, h⟩

theorem witness_InvariantStatesHaveASuccessor : ∃ s : State, Inv s ∧ s.st = .cmp :=
  ⟨_, witness_comparing_inv, rfl⟩

theorem witness_EveryStepKeepsTheInvariant_altered :
    ∃ s t : State, paramsWellFormed altered = true ∧ InvFor altered s ∧ stepFor altered s = .next t ∧ t.st = .rdTry := by
  obtain ⟨t, h, hp⟩ := nextIs_exists (o := stepFor altered (withRequests [ask 0x8610 3 [] []])) (p := fun t => t.st == .rdTry)
    (by decide +kernel)
  exact ⟨_, t, test_wf_params, ⟨by decide, by decide, by decide, by decide, by decide, by decide, by decide⟩, h, eq_of_beq hp⟩

end Sys2Proof.Tests
end

section
/-! The invariant of the registers (rules R22, R23, R25, R27): one rule per state operation, then every acceptance and every
transition of rule R221, then the step of the engine. -/

namespace Sys2Proof.Machine
open Host

/-! ## The registers apart from the request in progress -/

/-- `InvFor` without its last part: what the invariant says of `tries`, the buffers and the device map. -/
structure RegsOk (P : Params) (s : State) : Prop where
  tries_le : s.tries ≤ s.n
  wbuf_len : s.wbuf.length = s.wlen.toNat
  wbuf_max : s.wbuf.length ≤ P.frameMax
  rbuf_len : s.rbuf.length = s.rlen.toNat
  rbuf_max : s.rbuf.length ≤ P.frameMax
  dev_wf : devWf s.dev = true

theorem invFor_iff {P : Params} {s : State} : InvFor P s ↔ RegsOk P s ∧ shapeOk P s = true :=
  ⟨fun ⟨htries, hw, hwmax, hr, hrmax, hdev, hshape⟩ => ⟨⟨htries, hw, hwmax, hr, hrmax, hdev⟩, hshape⟩,
   fun ⟨⟨htries, hw, hwmax, hr, hrmax, hdev⟩, hshape⟩ => ⟨htries, hw, hwmax, hr, hrmax, hdev, hshape⟩⟩

section
variable {P : Params} {s : State}

theorem regsOk_goto (h : RegsOk P s) (t : FsmState) : RegsOk P (goto t s) := { h with }

theorem regsOk_setRes (h : RegsOk P s) (k : ErrorKind) : RegsOk P (setRes k s) := { h with }

theorem regsOk_raiseMulti (h : RegsOk P s) (k : ErrorKind) : RegsOk P (raiseMulti k s) :=
  regsOk_goto (regsOk_setRes h k) .done

theorem regsOk_setRval (h : RegsOk P s) (v : RVal) : RegsOk P (setRval v s) := { h with }

theorem regsOk_setAcc (h : RegsOk P s) (b : Byte) : RegsOk P (setAcc b s) := { h with }

theorem regsOk_respond (h : RegsOk P s) (v : RVal) (nv : Option Bool) : RegsOk P (respond v nv s) :=
  { h with }

theorem regsOk_setLastfail (h : RegsOk P s) (k : FailKind) : RegsOk P (setLastfail k s) := { h with }

theorem regsOk_passTime (h : RegsOk P s) (d : Nat) : RegsOk P (passTime d s) := { h with }

theorem regsOk_latch (h : RegsOk P s) (m : Mode) (p : Phase) (c : Byte) (nv : Bool) : RegsOk P (latch m p c nv s) :=
  { h with tries_le := Nat.zero_le _ }

theorem regsOk_startPhase (h : RegsOk P s) (p : Phase) : RegsOk P (startPhase p s) :=
  { h with tries_le := Nat.zero_le _ }

/-- An attempt is counted only while `tries` is below `n` (rule R27). -/
theorem regsOk_countAttempt (h : RegsOk P s) (hlt : s.tries < s.n) : RegsOk P (countAttempt s) :=
  { h with tries_le := by rw [countAttempt_tries, countAttempt_n]; bv_omega }

/-- A call leaves every register of the engine as it was. -/
theorem regsOk_recordCall (h : RegsOk P s) (c : Call) {d : Dev} (hd : devWf d = true) : RegsOk P (recordCall c d s) :=
  { h with dev_wf := hd }

theorem regsOk_configure (h : RegsOk P s) (w : CfgWrite) : RegsOk P (configure w s) := by
  rcases configure_spec w s with ⟨-, -, he⟩ | ⟨-, -, he⟩ | ⟨-, he⟩ <;> rw [he] <;> exact { h with }

theorem regsOk_atPort (h : RegsOk P s) (r : Request) (rest : List Request) : RegsOk P (Claims.atPort r rest s) := { h with }

theorem regsOk_resetEngine (h : RegsOk P s) : RegsOk P (resetEngine s) :=
  ⟨Nat.zero_le _, rfl, Nat.zero_le _, rfl, Nat.zero_le _, h.dev_wf⟩

end

/-- The registers after reset, whatever the operand ports hold. -/
theorem regsOk_resetFor (P : Params) : RegsOk P (resetFor P) :=
  ⟨Nat.zero_le _, rfl, Nat.zero_le _, rfl, Nat.zero_le _, rfl⟩

/-! ## Frames fit the buffers -/

theorem paramsWellFormed_frameMax {P : Params} (hP : paramsWellFormed P = true) : 2 ≤ P.frameMax ∧ P.frameMax ≤ 63 := by
  simp only [paramsWellFormed, Bool.and_eq_true, decide_eq_true_eq] at hP
  obtain ⟨⟨⟨⟨hmax, -⟩, -⟩, -⟩, -⟩ := hP
  exact hmax

/-- A sequence of at most `FRAME_MAX` bytes has a length that its six-bit register holds (rules R22, R23). -/
theorem frameLength_toNat {P : Params} (hP : paramsWellFormed P = true) {f : Bytes} (hf : f.length ≤ P.frameMax) :
    (BitVec.ofNat 6 f.length).toNat = f.length := by
  have := paramsWellFormed_frameMax hP
  rw [BitVec.toNat_ofNat, Nat.mod_eq_of_lt (by omega)]

theorem regsOk_loadWbuf {P : Params} {s : State} {f : Bytes} (hP : paramsWellFormed P = true) (h : RegsOk P s)
    (hf : f.length ≤ P.frameMax) : RegsOk P (loadWbuf f s) :=
  { h with wbuf_len := (frameLength_toNat hP hf).symm, wbuf_max := hf }

theorem regsOk_loadRbuf {P : Params} {s : State} {f : Bytes} (hP : paramsWellFormed P = true) (h : RegsOk P s)
    (hf : f.length ≤ P.frameMax) : RegsOk P (loadRbuf f s) :=
  { h with rbuf_len := (frameLength_toNat hP hf).symm, rbuf_max := hf }

theorem lenWellFormed_le {m n : Nat} {l : Layout} (h : lenWellFormed m l (some n) = true) : n ≤ m := by
  simp only [lenWellFormed, decide_eq_true_eq] at h
  obtain ⟨-, hle, -⟩ := h
  exact hle

/-- The frames of a row of an admissible table have at most `FRAME_MAX` bytes (rules R84, R85, R90). -/
theorem rowFrame_le {P : Params} (hP : paramsWellFormed P = true) {c : Byte} {row : CmdRow}
    (hrow : rowOf P.cmdtab c = some row) :
    (∀ n, row.rlen = some n → n + 1 ≤ P.frameMax) ∧ (∀ n, row.wlen = some n → n + 1 ≤ P.frameMax) := by
  have hmax := paramsWellFormed_frameMax hP
  have hwf := cmdtabWellFormed_mem (paramsWellFormed_cmdtab hP) row (rowOf_mem hrow)
  simp only [rowWellFormed, Bool.and_eq_true] at hwf
  obtain ⟨⟨⟨⟨⟨⟨-, hr⟩, hw⟩, -⟩, -⟩, -⟩, -⟩ := hwf
  constructor
  · intro n hn
    have := lenWellFormed_le (hn ▸ hr)
    omega
  · intro n hn
    have := lenWellFormed_le (hn ▸ hw)
    omega

theorem verifyFrame_appendCk (p : Bytes) : verifyFrame (appendCk p) = true := by
  simp [verifyFrame, appendCk]

theorem encFrame_verify {P : Params} {row : CmdRow} {wlen : Nat} {nv : Bool} {args : Args} {f : Bytes}
    (h : encFrame P row wlen nv args = .ok f) : verifyFrame f = true := by
  obtain ⟨p, -, rfl⟩ := encFrame_spec h
  exact verifyFrame_appendCk _

theorem mergeFrame_verify {P : Params} {row : CmdRow} {base f : Bytes} {nv : Bool} {args : Args}
    (h : mergeFrame P row base nv args = .ok f) : verifyFrame f = true := by
  obtain ⟨fs, -, rfl⟩ := mergeFrame_spec h
  exact verifyFrame_appendCk _

/-! ## The request in progress -/

theorem verifiable_iff {row : CmdRow} :
    verifiable row = true ↔ row.wlen.isSome = true ∧ row.rlen = row.wlen ∧ row.verify.isSome = true := by
  simp [verifiable, and_assoc]

theorem frameReady_iff {row : CmdRow} {s : State} :
    frameReady row s = true ↔ row.wlen.map (· + 1) = some s.wbuf.length ∧ verifyFrame s.wbuf = true := by
  simp [frameReady]

theorem mergeReady_iff {P : Params} {row : CmdRow} {s : State} :
    mergeReady P row s = true ↔ ∃ fs, collect P row.layout s.argr false = .ok fs := by
  unfold mergeReady
  cases collect P row.layout s.argr false <;> simp

/-- The four reads of rule R221: the read of `XFER.RD`, the pre-read of `XFER.RMW`, and the read-back of a verified write. -/
theorem readShape_iff {P : Params} {row : CmdRow} {s : State} :
    readShape P row s = true ↔
      (s.mode = .rd ∧ s.phase = .pre ∧ row.rlen.isSome = true) ∨
      (s.mode = .rmw ∧ s.phase = .pre ∧ verifiable row = true ∧ mergeReady P row s = true) ∨
      ((s.mode = .wrv ∨ s.mode = .rmw) ∧ s.phase = .back ∧ verifiable row = true ∧ frameReady row s = true) := by
  unfold readShape
  cases s.mode <;> cases s.phase <;> simp

theorem writeShape_iff {row : CmdRow} {s : State} :
    writeShape row s = true ↔
      s.phase = .write ∧ frameReady row s = true ∧
        (s.mode = .wr ∨ (s.mode = .wrv ∨ s.mode = .rmw) ∧ verifiable row = true) := by
  unfold writeShape
  cases s.mode <;> simp [and_assoc]

theorem cmpShape_iff {row : CmdRow} {s : State} :
    cmpShape row s = true ↔
      s.phase = .back ∧ (s.mode = .wrv ∨ s.mode = .rmw) ∧ verifiable row = true ∧ frameReady row s = true ∧
        row.rlen.map (· + 1) = some s.rbuf.length ∧ verifyFrame s.rbuf = true := by
  simp [cmpShape, and_assoc]

theorem shapeOk_of_idle {P : Params} {s : State} (h : s.st = .idle) : shapeOk P s = true := by simp [shapeOk, h]

theorem shapeOk_of_done {P : Params} {s : State} (h : s.st = .done) : shapeOk P s = true := by simp [shapeOk, h]

theorem shapeOk_read_iff {P : Params} {s : State} (h : s.st = .rdTry ∨ s.st = .rdWait) :
    shapeOk P s = true ↔ ∃ row, rowOf P.cmdtab s.cmdr = some row ∧ readShape P row s = true := by
  rcases h with h | h <;> simp [shapeOk, h, Option.any_eq_true]

theorem shapeOk_write_iff {P : Params} {s : State} (h : s.st = .wrTry ∨ s.st = .wrWait) :
    shapeOk P s = true ↔ ∃ row, rowOf P.cmdtab s.cmdr = some row ∧ writeShape row s = true := by
  rcases h with h | h <;> simp [shapeOk, h, Option.any_eq_true]

theorem shapeOk_cmp_iff {P : Params} {s : State} (h : s.st = .cmp) :
    shapeOk P s = true ↔ ∃ row, rowOf P.cmdtab s.cmdr = some row ∧ cmpShape row s = true := by
  simp [shapeOk, h, Option.any_eq_true]


/-! ## The acceptance of a request -/

/-- A row with a comparator serves verified writes (rule R90). -/
theorem verifiable_of_verify {P : Params} (hP : paramsWellFormed P = true) {c : Byte} {row : CmdRow}
    (hrow : rowOf P.cmdtab c = some row) (hv : row.verify.isSome = true) : verifiable row = true := by
  have hwf := cmdtabWellFormed_mem (paramsWellFormed_cmdtab hP) row (rowOf_mem hrow)
  simp only [rowWellFormed, Bool.and_eq_true] at hwf
  obtain ⟨⟨⟨⟨⟨⟨-, -⟩, -⟩, hver⟩, -⟩, -⟩, -⟩ := hwf
  obtain ⟨cmp, hcmp⟩ := Option.isSome_iff_exists.mp hv
  simp only [verifyWellFormed, hcmp, Bool.and_eq_true, beq_iff_eq] at hver
  obtain ⟨⟨hw, hr⟩, -⟩ := hver
  exact verifiable_iff.mpr ⟨hw, hr, hv⟩

/-- An accepted request meets the invariant: every T0 of rule R221 sets up the registers of its state. -/
theorem invFor_of_accepted {P : Params} {s t : State} (hP : paramsWellFormed P = true) (h : RegsOk P s) (hst : s.st = .idle)
    (ha : Accepted P s t) : InvFor P t := by
  rw [invFor_iff]
  cases ha with
  | refuseSingle k => exact ⟨regsOk_setRes h k, shapeOk_of_idle hst⟩
  | answer v nv => exact ⟨regsOk_respond h v nv, shapeOk_of_idle hst⟩
  | absorb b => exact ⟨regsOk_respond (regsOk_setAcc h b) _ _, shapeOk_of_idle hst⟩
  | refuseMulti k => exact ⟨regsOk_raiseMulti h k, shapeOk_of_done rfl⟩
  | read row c hrow hlen =>
    refine ⟨regsOk_goto (regsOk_latch h ..) _, (shapeOk_read_iff (.inl rfl)).mpr ⟨row, hrow, ?_⟩⟩
    exact readShape_iff.mpr (.inl ⟨rfl, rfl, hlen⟩)
  | write row c m nv wlen f hrow hm hlen hv hf =>
    have hflen := encFrame_length hf
    have hfmax : f.length ≤ P.frameMax := hflen ▸ (rowFrame_le hP hrow).2 wlen hlen
    refine ⟨regsOk_goto (regsOk_loadWbuf hP (regsOk_latch h ..) hfmax) _,
      (shapeOk_write_iff (.inl rfl)).mpr ⟨row, hrow, ?_⟩⟩
    refine writeShape_iff.mpr ⟨rfl, frameReady_iff.mpr ⟨by simp [hlen, hflen], encFrame_verify hf⟩, ?_⟩
    rcases hm with rfl | rfl
    · exact .inl rfl
    · exact .inr ⟨.inl rfl, verifiable_of_verify hP hrow (hv rfl)⟩
  | modify row c nv fs hrow hw hr hv hc =>
    refine ⟨regsOk_goto (regsOk_latch h ..) _, (shapeOk_read_iff (.inl rfl)).mpr ⟨row, hrow, ?_⟩⟩
    exact readShape_iff.mpr (.inr (.inl ⟨rfl, rfl, verifiable_iff.mpr ⟨hw, hr, hv⟩, mergeReady_iff.mpr ⟨fs, hc⟩⟩))

/-! ## The transitions of the engine -/

section
variable {P : Params} {s s' : State}

theorem regsOk_memRead (h : RegsOk P s) {reg : Byte} {len : Nat} {a : Option Bytes}
    (hm : memRead P reg len s = some (a, s')) : RegsOk P s' := by
  obtain ⟨-, rfl⟩ := memRead_spec hm
  exact regsOk_recordCall h _ (devBefore_wf P s h.dev_wf)

theorem regsOk_memWrite (h : RegsOk P s) {reg : Byte} {f : Bytes} {ok : Bool}
    (hm : memWrite P reg f s = some (ok, s')) : RegsOk P s' := by
  have hd := memWrite_wf h.dev_wf hm
  obtain ⟨d, -, rfl⟩ := memWrite_spec hm
  exact regsOk_recordCall h _ hd

theorem regsOk_readFailed (h : RegsOk P s) (hlt : s.tries < s.n) (k : FailKind) : RegsOk P (readFailed k s) :=
  regsOk_goto (regsOk_setLastfail (regsOk_countAttempt h hlt) k) _

/-- The decode step answers in `DONE`, whatever the payload (rule R230). -/
theorem readDecode_spec (P : Params) (row : CmdRow) (rlen : Nat) (s : State) :
    (∃ v nv, readDecode P row rlen s = goto .done (respond v nv s)) ∨ ∃ k, readDecode P row rlen s = raiseMulti k s := by
  unfold readDecode
  rcases decodePayload_spec P row (pay s.rbuf rlen) s with ⟨r, -, h⟩ | ⟨-, h⟩ <;> rw [h]
  · exact .inl ⟨_, _, rfl⟩
  · exact .inr ⟨_, rfl⟩

theorem invFor_readDecode (h : RegsOk P s) (row : CmdRow) (rlen : Nat) : InvFor P (readDecode P row rlen s) := by
  rcases readDecode_spec P row rlen s with ⟨v, nv, he⟩ | ⟨k, he⟩ <;> rw [he, invFor_iff]
  · exact ⟨regsOk_goto (regsOk_respond h v nv) _, shapeOk_of_done rfl⟩
  · exact ⟨regsOk_raiseMulti h k, shapeOk_of_done rfl⟩

/-- The row of a read in progress gives the registers their meaning. -/
theorem InvFor.readShape (h : InvFor P s) (hst : s.st = .rdTry ∨ s.st = .rdWait) {row : CmdRow}
    (hrow : rowOf P.cmdtab s.cmdr = some row) : readShape P row s = true := by
  obtain ⟨row', hrow', hshape⟩ := (shapeOk_read_iff hst).mp h.shape
  cases hrow.symm.trans hrow'
  exact hshape

end

/-- The merge of a modify sets up the write of its frame (T2d). -/
theorem writeShape_of_merge {P : Params} {row : CmdRow} {s : State} {g : Bytes} {rlen : Nat} (h : readShape P row s = true)
    (hmode : s.mode = .rmw) (hphase : s.phase = .pre) (hlen : row.rlen = some rlen) (hg : g.length = rlen + 1)
    (hv : verifyFrame g = true) : writeShape row (goto .wrTry (startPhase .write (loadWbuf g s))) = true := by
  rcases readShape_iff.mp h with ⟨hm, -⟩ | ⟨-, -, hver, -⟩ | ⟨-, hp, -⟩
  · simp [hm] at hmode
  · obtain ⟨-, hrw, -⟩ := verifiable_iff.mp hver
    have hready : row.wlen.map (· + 1) = some g.length := by rw [← hrw, hlen, hg]; rfl
    exact writeShape_iff.mpr ⟨rfl, frameReady_iff.mpr ⟨hready, hv⟩, .inr ⟨.inr hmode, hver⟩⟩
  · simp [hp] at hphase

/-- A written frame of a verified write is then read back (T5c). -/
theorem readShape_of_written {P : Params} {row : CmdRow} {s : State} (hmode : s.mode = .wrv ∨ s.mode = .rmw)
    (h : writeShape row s = true) (k : FailKind) (d : Nat) :
    readShape P row (goto .rdTry (passTime d (setLastfail k (startPhase .back s)))) = true := by
  obtain ⟨-, hready, hm⟩ := writeShape_iff.mp h
  have hver : verifiable row = true := by
    rcases hm with hwr | ⟨-, hver⟩
    · simp [hwr] at hmode
    · exact hver
  exact readShape_iff.mpr (.inr (.inr ⟨hmode, rfl, hver, hready⟩))

/-- A clean frame of a read-back is then compared (T2e). -/
theorem cmpShape_of_readBack {P : Params} {row : CmdRow} {s : State} {f : Bytes} {rlen : Nat} (h : readShape P row s = true)
    (hphase : s.phase = .back) (hlen : row.rlen = some rlen) (hf : f.length = rlen + 1) (hv : verifyFrame f = true) :
    cmpShape row (goto .cmp (loadRbuf f s)) = true := by
  rcases readShape_iff.mp h with ⟨-, hp, -⟩ | ⟨-, hp, -, -⟩ | ⟨hmode, -, hver, hready⟩
  · simp [hp] at hphase
  · simp [hp] at hphase
  · have hlen' : row.rlen.map (· + 1) = some f.length := by rw [hlen, hf]; rfl
    exact cmpShape_iff.mpr ⟨hphase, hmode, hver, hready, hlen', hv⟩

/-- Every transition of rule R221 keeps the invariant. -/
theorem invFor_of_transition {P : Params} {s t : State} (hP : paramsWellFormed P = true) (h : InvFor P s)
    (ht : Transition P s t) : InvFor P t := by
  obtain ⟨hregs, hshape⟩ := invFor_iff.mp h
  cases ht with
  | waits => exact h
  | readNever => exact h
  | writeNever => exact h
  | untaken => exact h
  | t1 => exact invFor_iff.mpr ⟨regsOk_raiseMulti hregs _, shapeOk_of_done rfl⟩
  | t4 => exact invFor_iff.mpr ⟨regsOk_raiseMulti hregs _, shapeOk_of_done rfl⟩
  | t7match => exact invFor_iff.mpr ⟨regsOk_goto (regsOk_respond hregs _ _) _, shapeOk_of_done rfl⟩
  | t7fail => exact invFor_iff.mpr ⟨regsOk_raiseMulti (regsOk_setRval hregs _) _, shapeOk_of_done rfl⟩
  | t8 => exact invFor_iff.mpr ⟨regsOk_goto hregs _, shapeOk_of_idle rfl⟩
  | t3 hst =>
    have hread := (shapeOk_read_iff (.inr hst)).mp hshape
    exact invFor_iff.mpr ⟨regsOk_goto (regsOk_passTime hregs _) _, (shapeOk_read_iff (.inl rfl)).mpr hread⟩
  | t6 hst =>
    have hwrite := (shapeOk_write_iff (.inr hst)).mp hshape
    exact invFor_iff.mpr ⟨regsOk_goto (regsOk_passTime hregs _) _, (shapeOk_write_iff (.inl rfl)).mpr hwrite⟩
  | t2a row rlen a s' hst hlt hrow hlen hm ha =>
    have hread := h.readShape (.inl hst) hrow
    have hregs' := regsOk_memRead hregs hm
    obtain ⟨-, rfl⟩ := memRead_spec hm
    exact invFor_iff.mpr ⟨regsOk_readFailed hregs' hlt _, (shapeOk_read_iff (.inr rfl)).mpr ⟨row, hrow, hread⟩⟩
  | t2b row rlen f s' hst hlt hrow hlen hm hf hv =>
    have hread := h.readShape (.inl hst) hrow
    have hregs' := regsOk_memRead hregs hm
    have hmax : f.length ≤ P.frameMax := hf ▸ (rowFrame_le hP hrow).1 rlen hlen
    obtain ⟨-, rfl⟩ := memRead_spec hm
    exact invFor_iff.mpr ⟨regsOk_readFailed (regsOk_loadRbuf hP hregs' hmax) hlt _,
      (shapeOk_read_iff (.inr rfl)).mpr ⟨row, hrow, hread⟩⟩
  | t2c row rlen f s' hst hlt hrow hlen hm hf hv hmode =>
    have hregs' := regsOk_memRead hregs hm
    have hmax : f.length ≤ P.frameMax := hf ▸ (rowFrame_le hP hrow).1 rlen hlen
    obtain ⟨-, rfl⟩ := memRead_spec hm
    exact invFor_readDecode (regsOk_loadRbuf hP (regsOk_countAttempt hregs' hlt) hmax) row rlen
  | t2d row rlen f g s' hst hlt hrow hlen hm hf hv hmode hphase hg =>
    have hregs' := regsOk_memRead hregs hm
    have hmax : f.length ≤ P.frameMax := hf ▸ (rowFrame_le hP hrow).1 rlen hlen
    have hglen : g.length = f.length := by
      rw [mergeFrame_length hg, hf]
      simp [pay, hf]
    have hread := h.readShape (.inl hst) hrow
    obtain ⟨-, rfl⟩ := memRead_spec hm
    refine invFor_iff.mpr ⟨regsOk_goto (regsOk_startPhase (regsOk_loadWbuf hP (regsOk_loadRbuf hP
      (regsOk_countAttempt hregs' hlt) hmax) (hglen ▸ hmax)) _) _, (shapeOk_write_iff (.inl rfl)).mpr ⟨row, hrow, ?_⟩⟩
    exact writeShape_of_merge (P := P) hread hmode hphase hlen (hglen.trans hf) (mergeFrame_verify hg)
  | t2e row rlen f s' hst hlt hrow hlen hm hf hv hmode hphase =>
    have hread := h.readShape (.inl hst) hrow
    have hregs' := regsOk_memRead hregs hm
    have hmax : f.length ≤ P.frameMax := hf ▸ (rowFrame_le hP hrow).1 rlen hlen
    obtain ⟨-, rfl⟩ := memRead_spec hm
    exact invFor_iff.mpr ⟨regsOk_goto (regsOk_loadRbuf hP (regsOk_countAttempt hregs' hlt) hmax) _,
      (shapeOk_cmp_iff rfl).mpr ⟨row, hrow, cmpShape_of_readBack (P := P) hread hphase hlen hf hv⟩⟩
  | t5a s' hst hlt hm =>
    obtain ⟨row, hrow, hwrite⟩ := (shapeOk_write_iff (.inl hst)).mp hshape
    have hregs' := regsOk_memWrite hregs hm
    obtain ⟨d, -, rfl⟩ := memWrite_spec hm
    exact invFor_iff.mpr ⟨regsOk_goto (regsOk_countAttempt hregs' hlt) _,
      (shapeOk_write_iff (.inr rfl)).mpr ⟨row, hrow, hwrite⟩⟩
  | t5b s' hst hlt hm hmode =>
    have hregs' := regsOk_memWrite hregs hm
    obtain ⟨d, -, rfl⟩ := memWrite_spec hm
    exact invFor_iff.mpr ⟨regsOk_goto (regsOk_respond (regsOk_countAttempt hregs' hlt) _ _) _, shapeOk_of_done rfl⟩
  | t5c s' hst hlt hm hmode =>
    obtain ⟨row, hrow, hwrite⟩ := (shapeOk_write_iff (.inl hst)).mp hshape
    have hregs' := regsOk_memWrite hregs hm
    obtain ⟨d, -, rfl⟩ := memWrite_spec hm
    exact invFor_iff.mpr ⟨regsOk_goto (regsOk_passTime (regsOk_setLastfail (regsOk_startPhase hregs' _) _) _) _,
      (shapeOk_read_iff (.inl rfl)).mpr ⟨row, hrow, readShape_of_written hmode hwrite .comm Config.settle⟩⟩

/-! ## The step -/

/-- Every step of an engine with admissible parameters keeps the invariant (rules R11, R220, R221). -/
theorem invFor_of_stepFor {P : Params} {s t : State} (hP : paramsWellFormed P = true) (h : InvFor P s)
    (ht : stepFor P s = .next t) : InvFor P t := by
  obtain ⟨hregs, hshape⟩ := invFor_iff.mp h
  rcases stepFor_cases hP ht with ⟨-, rfl⟩ | ⟨-, w, -, rfl⟩ | ⟨-, -, hst, r, rest, -, ha⟩ | ⟨-, -, htr⟩
  · exact invFor_iff.mpr ⟨regsOk_resetEngine hregs, shapeOk_of_idle rfl⟩
  · refine invFor_iff.mpr ⟨regsOk_configure hregs w, ?_⟩
    rcases configure_spec w s with ⟨-, -, he⟩ | ⟨-, -, he⟩ | ⟨-, he⟩ <;> rw [he] <;> exact hshape
  · exact invFor_of_accepted hP (regsOk_atPort hregs r rest) hst ha
  · exact invFor_of_transition hP h htr


/-! ## The engine is never stuck -/

/-- A read in progress has a row with a read direction. -/
theorem readShape_rlen {P : Params} {row : CmdRow} {s : State} (h : readShape P row s = true) : row.rlen.isSome = true := by
  rcases readShape_iff.mp h with ⟨-, -, hr⟩ | ⟨-, -, hver, -⟩ | ⟨-, -, hver, -⟩
  · exact hr
  · obtain ⟨hw, hrw, -⟩ := verifiable_iff.mp hver
    rw [hrw, hw]
  · obtain ⟨hw, hrw, -⟩ := verifiable_iff.mp hver
    rw [hrw, hw]

/-- The merge cannot raise when the latched operands convert (rule R226). -/
theorem readMerge_next {P : Params} {row : CmdRow} {s : State} (h : mergeReady P row s = true) (rlen : Nat) :
    ∃ t, readMerge P row rlen s = .next t := by
  obtain ⟨fs, hfs⟩ := mergeReady_iff.mp h
  unfold readMerge
  split
  · rename_i hm
    cases hfs.symm.trans (mergeFrame_error hm)
  · exact ⟨_, rfl⟩

theorem readClean_next {P : Params} {row : CmdRow} {s : State} (h : readShape P row s = true) (rlen : Nat) :
    ∃ t, readClean P row rlen s = .next t := by
  unfold readClean
  rcases readShape_iff.mp h with ⟨hm, hp, -⟩ | ⟨hm, hp, -, hmerge⟩ | ⟨hm | hm, hp, -, -⟩ <;> rw [hm, hp]
  · exact ⟨_, rfl⟩
  · exact readMerge_next hmerge rlen
  · exact ⟨_, rfl⟩
  · exact ⟨_, rfl⟩

theorem readResult_next {P : Params} {row : CmdRow} {s : State} (h : readShape P row s = true) (rlen : Nat)
    (a : Option Bytes) :
    ∃ t, readResult P row rlen a s = .next t := by
  unfold readResult
  split
  · exact ⟨_, rfl⟩
  · rename_i f
    split
    · exact ⟨_, rfl⟩
    · split
      · exact readClean_next (s := loadRbuf f (countAttempt s)) h rlen
      · exact ⟨_, rfl⟩

theorem readAttempt_next {P : Params} {row : CmdRow} {s : State} (hrow : rowOf P.cmdtab s.cmdr = some row)
    (h : readShape P row s = true) : ∃ t, readAttempt P s = .next t := by
  obtain ⟨rlen, hlen⟩ := Option.isSome_iff_exists.mp (readShape_rlen h)
  simp only [readAttempt, hrow, hlen]
  split
  · exact ⟨_, rfl⟩
  · rename_i a s' hm
    obtain ⟨-, rfl⟩ := memRead_spec hm
    exact readResult_next (s := recordCall _ _ s) h rlen a

theorem writeAttempt_next {P : Params} {row : CmdRow} {s : State} (h : writeShape row s = true) :
    ∃ t, writeAttempt P s = .next t := by
  obtain ⟨-, -, hmode⟩ := writeShape_iff.mp h
  unfold writeAttempt
  split
  · exact ⟨_, rfl⟩
  · rename_i s' hm
    obtain ⟨d, -, rfl⟩ := memWrite_spec hm
    unfold writeDone
    rcases hmode with hm | ⟨hm | hm, -⟩ <;> rw [recordCall_mode, hm] <;> exact ⟨_, rfl⟩
  · exact ⟨_, rfl⟩

theorem cmpStep_next {P : Params} {row : CmdRow} {s : State} (hrow : rowOf P.cmdtab s.cmdr = some row)
    (h : cmpShape row s = true) : ∃ t, cmpStep P s = .next t := by
  obtain ⟨-, -, hver, -⟩ := cmpShape_iff.mp h
  obtain ⟨hw, hrw, hv⟩ := verifiable_iff.mp hver
  obtain ⟨wlen, hw⟩ := Option.isSome_iff_exists.mp hw
  obtain ⟨c, hc⟩ := Option.isSome_iff_exists.mp hv
  simp only [cmpStep, hrow, hc, hrw, hw]
  split <;> exact ⟨_, rfl⟩

/-- In a `TRY` state the attempts are exhausted or one is left (rule R227). -/
theorem tries_eq_or_lt {s : State} (h : s.tries ≤ s.n) : s.tries = s.n ∨ s.tries < s.n := by
  bv_omega

/-- The engine has a transition in every state that meets the invariant (rules R247, R312). -/
theorem fsmStep_next {P : Params} {s : State} (h : InvFor P s) : ∃ t, fsmStep P s = .next t := by
  unfold fsmStep
  cases hst : s.st with
  | idle => exact ⟨_, rfl⟩
  | rdWait => exact ⟨_, rfl⟩
  | wrWait => exact ⟨_, rfl⟩
  | done => exact ⟨_, rfl⟩
  | rdTry =>
    obtain ⟨row, hrow, hread⟩ := (shapeOk_read_iff (.inl hst)).mp h.shape
    rcases tries_eq_or_lt h.tries_le with he | hlt
    · exact ⟨_, if_pos he⟩
    · simpa only [rdTryStep, hlt, if_pos, BitVec.ne_of_lt hlt, if_false] using readAttempt_next hrow hread
  | wrTry =>
    obtain ⟨row, -, hwrite⟩ := (shapeOk_write_iff (.inl hst)).mp h.shape
    rcases tries_eq_or_lt h.tries_le with he | hlt
    · exact ⟨_, if_pos he⟩
    · simpa only [wrTryStep, hlt, if_pos, BitVec.ne_of_lt hlt, if_false] using writeAttempt_next (P := P) hwrite
  | cmp =>
    obtain ⟨row, hrow, hcmp⟩ := (shapeOk_cmp_iff hst).mp h.shape
    exact cmpStep_next hrow hcmp

/-- A state that meets the invariant has a successor: a reset, a configuration write and an acceptance always have one. -/
theorem stepFor_next {P : Params} {s : State} (h : InvFor P s) : ∃ t, stepFor P s = .next t := by
  unfold stepFor
  split
  · exact ⟨_, rfl⟩
  · split
    · exact ⟨_, rfl⟩
    · split
      · exact ⟨_, rfl⟩
      · exact fsmStep_next h

end Sys2Proof.Machine
end

section
namespace Sys2Proof.Claims
open Sys2Proof Sys2Proof.Machine Host

/-- Settles O58: at reset nothing is in progress and the buffers are empty, whatever the parameters. -/
theorem invariantHoldsAtReset : Obligations.InvariantHoldsAtReset := by
  have hreset : ∀ P : Params, InvFor P (resetFor P) := fun P => invFor_iff.mpr ⟨regsOk_resetFor P, shapeOk_of_idle rfl⟩
  exact ⟨resetFor_defaults ▸ hreset defaults, hreset⟩

/-- Settles O59: the machine is the engine over the parameters of rule R6, and its step is a reset, a configuration write,
an acceptance or a line of rule R221, each of which keeps the invariant. -/
theorem everyStepKeepsTheInvariant : Obligations.EveryStepKeepsTheInvariant := by
  refine ⟨fun s t h ht => ?_, fun P hP s t h ht => invFor_of_stepFor hP h ht⟩
  rw [step_eq_stepFor] at ht
  exact invFor_of_stepFor defaults_wellFormed h ht

/-- Settles O60: the invariant rules out each of the engine's faults. -/
theorem invariantStatesHaveASuccessor : Obligations.InvariantStatesHaveASuccessor := by
  refine ⟨fun s h => ?_, fun P _ s h => stepFor_next h⟩
  obtain ⟨t, ht⟩ := stepFor_next h
  exact ⟨t, (step_eq_stepFor s).trans ht⟩

end Sys2Proof.Claims
end

section
/-! The ideal device (rule R64): what a read after a write answers. -/

namespace Sys2Proof.Machine

/-- A call without changes of its own finds the device as it is. -/
theorem devBefore_of_no_changes (P : Params) {s : State} (h : (nextOverride s).before = []) : devBefore P s = s.dev := by
  rw [devBefore, h]
  rfl

/-- A register that holds a frame answers a read of the frame's length with it (rule R64). -/
theorem idealRead_of_devGet {d : Dev} {reg : Byte} {f : Bytes} (h : devGet d reg.toNat = some f) :
    idealRead d reg f.length = some f := by
  simp [idealRead, h]

theorem idealRead_devSet_same {d : Dev} {reg : Byte} {f : Bytes} (h : devWf d = true) (hf : f ≠ []) :
    idealRead (devSet d reg.toNat f) reg f.length = some f :=
  idealRead_of_devGet (by simp [devGet_devSet d _ _ _ h, hf])

theorem idealRead_devSet_other {d : Dev} {reg other : Byte} (f : Bytes) (len : Nat) (h : devWf d = true) (ho : other ≠ reg) :
    idealRead (devSet d reg.toNat f) other len = idealRead d other len := by
  have hne : other.toNat ≠ reg.toNat := fun he => ho (BitVec.eq_of_toNat_eq he)
  simp only [idealRead, devGet_devSet d _ _ _ h, if_neg hne]

theorem writeAnswer_ideal {P : Params} {s : State} (h : nextOverride s = { before := [], rule := .ideal }) (reg : Byte)
    (f : Bytes) : writeAnswer P reg f s = some (true, devSet s.dev reg.toNat f) := by
  simp only [writeAnswer, h, devBefore_of_no_changes P (s := s) (by rw [h])]

theorem readAnswer_ideal {P : Params} {s : State} (h : nextOverride s = { before := [], rule := .ideal }) (reg : Byte)
    (len : Nat) : readAnswer P reg len s = some (idealRead s.dev reg len) := by
  simp only [readAnswer, h, devBefore_of_no_changes P (s := s) (by rw [h])]

end Sys2Proof.Machine
end

section
namespace Sys2Proof.Claims
open Sys2Proof Sys2Proof.Machine Host

/-- Settles O55: the write call stores the frame in the device map, and the next call reads that map. -/
theorem idealDeviceStoresFrames : Obligations.IdealDeviceStoresFrames := by
  intro P s s1 reg f rest hwf hf hscript hwrite
  have hfirst : nextOverride s = { before := [], rule := .ideal } := by rw [nextOverride, hscript]; rfl
  obtain ⟨d, hd, rfl⟩ := memWrite_spec hwrite
  rw [writeAnswer_ideal hfirst] at hd
  cases hd
  have hread : ∀ (r : Byte) (len : Nat),
      readAnswer P r len (recordCall (.write s.cfgBus s.cfgAddr reg f) (devSet s.dev reg.toNat f) s) =
        some (idealRead (devSet s.dev reg.toNat f) r len) := by
    refine readAnswer_ideal ?_
    rw [nextOverride, recordCall_script, hscript]
    rfl
  refine ⟨?_, fun other len ho => ?_, devSet_wf _ _ _ reg.isLt hwf⟩
  · simp only [memRead, hread, idealRead_devSet_same hwf hf]
    exact ⟨_, rfl⟩
  · rw [hread, idealRead_devSet_other f len hwf ho]

end Sys2Proof.Claims
end

section
/-! Payload bits of an inserted field, whatever its position (rules R9, R87, R237). -/

namespace Sys2Proof.Machine

theorem payloadBit_setPayloadBit_ne (p : Bytes) {b c : Nat} (v : Bool) (h : c ≠ b) :
    payloadBit (setPayloadBit p b v) c = payloadBit p c := by
  by_cases hb : b < 8 * p.length
  · rw [payloadBit_setPayloadBit p b c v hb, if_neg h]
  · have hset : setPayloadBit p b v = p := List.set_eq_of_length_le (by omega)
    rw [hset]

/-- A field leaves alone every bit that it does not own, also where the field does not fit the payload. -/
theorem payloadBit_insBits_outside (p : Bytes) {pos w c : Nat} (v : Nat) (h : ¬ (pos ≤ c ∧ c < pos + w)) :
    payloadBit (insBits p pos w v) c = payloadBit p c := by
  induction w with
  | zero => rfl
  | succ w ih => rw [insBits, payloadBit_setPayloadBit_ne _ _ (by omega), ih (by omega)]

theorem payloadBit_foldl_insField_outside (p : Bytes) {fs : List Field} {c : Nat}
    (h : ∀ f ∈ fs, ¬ (f.pos ≤ c ∧ c < f.pos + f.w)) : payloadBit (fs.foldl insField p) c = payloadBit p c := by
  induction fs generalizing p with
  | nil => rfl
  | cons f fs ih =>
    obtain ⟨hf, hfs⟩ := List.forall_mem_cons.mp h
    rw [List.foldl_cons, ih _ hfs, insField, payloadBit_insBits_outside _ _ hf]

theorem payloadBit_insNv_outside (row : CmdRow) (nv : Bool) (p : Bytes) {c : Nat} (h : row.nv = true → c ≠ 7) :
    payloadBit (insNv row nv p) c = payloadBit p c := by
  unfold insNv
  split
  · rename_i hnv
    have := h hnv
    exact payloadBit_insBits_outside p _ (by omega)
  · rfl

/-- Bit 7 of byte 0 is the flag, for a row that takes it (rule R88). -/
theorem payloadBit_insNv_flag {row : CmdRow} (nv : Bool) {p : Bytes} (h : row.nv = true) (hp : p ≠ []) :
    payloadBit (insNv row nv p) 7 = nv := by
  have hlen := List.length_pos_iff.mpr hp
  rw [insNv, if_pos h, payloadBit_insBits p 7 1 _ 7 (by omega), if_pos (by omega)]
  cases nv <;> rfl

/-- The checksum byte stands after the payload, so no payload bit changes (rule R84). -/
theorem payloadBit_appendCk (p : Bytes) {b : Nat} (h : b < 8 * p.length) : payloadBit (appendCk p) b = payloadBit p b := by
  unfold payloadBit appendCk
  rw [List.getD_append _ _ _ _ (by omega)]

end Sys2Proof.Machine
end

section
namespace Sys2Proof.Claims
open Sys2Proof Sys2Proof.Machine Host

/-- Settles O38: the merged frame is the base with the named groups' fields, then the flag, then the checksum byte, and each
of these keeps the bits it does not own. -/
theorem mergeKeepsUnnamedBits : Obligations.MergeKeepsUnnamedBits := by
  intro P row base g nv args fs hfs hmerge
  obtain ⟨fs', hfs', rfl⟩ := mergeFrame_spec hmerge
  cases hfs.symm.trans hfs'
  have hlen : (insNv row nv (fs.foldl insField base)).length = base.length := by
    rw [insNv_length, foldl_insField_length]
  refine ⟨mergeFrame_length hmerge, mergeFrame_verify hmerge, fun b hb hout hnv => ?_, fun hnv hbase => ?_⟩
  · rw [payloadBit_appendCk _ (by omega), payloadBit_insNv_outside row nv _ hnv, payloadBit_foldl_insField_outside base hout]
  · have hpos := List.length_pos_iff.mpr hbase
    rw [payloadBit_appendCk _ (by omega), payloadBit_insNv_flag nv hnv]
    exact List.length_pos_iff.mp (by rwa [foldl_insField_length])

end Sys2Proof.Claims
end

section
/-! The whole-sequence checksum requests (rules R85, R123 to R125). -/

namespace Sys2Proof.Machine

theorem verifyFrame_concat (p : Bytes) (c : Byte) : verifyFrame (p ++ [c]) = (cksum p == c) := by
  simp [verifyFrame]

theorem csVerifyRequest_of_le {P : Params} {s : State} (h : s.opBytes.length ≤ P.frameMax) :
    csVerifyRequest P s = respond (.bool (verifyFrame s.opBytes)) none s := if_pos h

theorem csVerifyRequest_of_gt {P : Params} {s : State} (h : P.frameMax < s.opBytes.length) :
    csVerifyRequest P s = raiseSingle .badArgument s := if_neg (Nat.not_le.mpr h)

end Sys2Proof.Machine

namespace Sys2Proof.Claims
open Sys2Proof Sys2Proof.Machine Host

/-- The verification of a sequence with a trailing byte (rule R124). -/
theorem csVerifyRequest_concat {P : Params} {s : State} {p : Bytes} {c : Byte} (hp : p.length < P.frameMax)
    (hs : s.opBytes = p ++ [c]) :
    csVerifyRequest P s = answered (.bool (p.foldl (· ^^^ ·) 0xFF == c)) none s := by
  have hlen : s.opBytes.length ≤ P.frameMax := by rw [hs, List.length_append]; exact hp
  rw [csVerifyRequest_of_le hlen, hs, verifyFrame_concat]
  rfl

/-- Settles O10: the machine's requests are those of the engine with `FRAME_MAX` 32. -/
theorem csWholeSequenceForms : Obligations.CsWholeSequenceForms := by
  refine fun s => ⟨⟨rfl, rfl, fun h => ?_, fun h => ?_, fun p c hp hs => ?_⟩,
    fun P => ⟨rfl, rfl, fun h => csVerifyRequest_of_gt h, fun p c hp hs => csVerifyRequest_concat hp hs⟩⟩
  · exact congrArg Outcome.next (csVerifyRequest_of_gt (P := defaults) h)
  · have hlen : s.opBytes.length ≤ defaults.frameMax := by rw [h]; exact Nat.zero_le _
    refine congrArg Outcome.next ((csVerifyRequest_of_le hlen).trans ?_)
    rw [h]
    rfl
  · exact congrArg Outcome.next (csVerifyRequest_concat (P := defaults) (Nat.lt_succ_of_le hp) hs)

end Sys2Proof.Claims
end

section
/-! The operand checks of a request whose groups are all required (rules R93, R142, R143): the error is the first one in the
layout's order. -/

namespace Sys2Proof.Machine
open Sys2Proof.Claims Host

/-! ## The error of one operand and of a request -/

/-- The error an answer carries; `NoError` if it carries a value. -/
def answerKind {α : Type} : Except ErrorKind α → ErrorKind
  | .error k => k
  | .ok _ => .noError

/-- The error of the conversion of one operand, if any. -/
def convertError (P : Params) (l : Layout) (g : Group) (o : Operand) : Option ErrorKind :=
  match convert P l g o with
  | .error k => some k
  | .ok _ => none

theorem convertGroups_cons_missing {P : Params} {l : Layout} {args : Args} {g : Group} {gs : List Group}
    (h : args.filter (fun e => e.1 == g) = []) : convertGroups P l args true (g :: gs) = .error (groupErr l g) := by
  simp [convertGroups, h]

theorem convertGroups_cons_refused {P : Params} {l : Layout} {args : Args} {g : Group} {gs : List Group} {o : Operand}
    {k : ErrorKind} (all : Bool) (h : args.filter (fun e => e.1 == g) = [(g, o)]) (hc : convert P l g o = .error k) :
    convertGroups P l args all (g :: gs) = .error k := by
  simp [convertGroups, h, hc]

theorem convertGroups_cons_ok {P : Params} {l : Layout} {args : Args} {g : Group} {gs : List Group} {o : Operand}
    {fs rest : List Field} {all : Bool} (h : args.filter (fun e => e.1 == g) = [(g, o)]) (hc : convert P l g o = .ok fs)
    (hrest : convertGroups P l args all gs = .ok rest) : convertGroups P l args all (g :: gs) = .ok (fs ++ rest) := by
  simp [convertGroups, h, hc, hrest]

theorem answerKind_convertGroups_cons {P : Params} {l : Layout} {args : Args} {g : Group} {gs : List Group} {o : Operand}
    {fs : List Field} {all : Bool} (h : args.filter (fun e => e.1 == g) = [(g, o)]) (hc : convert P l g o = .ok fs) :
    answerKind (convertGroups P l args all (g :: gs)) = answerKind (convertGroups P l args all gs) := by
  cases hr : convertGroups P l args all gs <;> simp [convertGroups, h, hc, hr, answerKind]

/-! ## The operands of the groups that are given one -/

theorem mem_given {l : List (Group × Option Operand)} {e : Group × Operand} (h : e ∈ given l) : e.1 ∈ l.map (·.1) := by
  obtain ⟨x, hx, he⟩ := List.mem_filterMap.mp h
  obtain ⟨o, -, rfl⟩ := Option.map_eq_some_iff.mp he
  exact List.mem_map_of_mem hx

/-- The entries of a group among the operands given: its own operand, if it has one. -/
theorem filter_given {l : List (Group × Option Operand)} (hnodup : (l.map (·.1)).Nodup) :
    ∀ e ∈ l, (given l).filter (fun x => x.1 == e.1) = given [e] := by
  have hskip : ∀ (l : List (Group × Option Operand)) (g : Group), g ∉ l.map (·.1) →
      (given l).filter (fun x => x.1 == g) = [] := by
    intro l g hg
    refine List.filter_eq_nil_iff.mpr fun x hx he => hg ?_
    have hxg : x.1 = g := by simpa using he
    exact hxg ▸ mem_given hx
  induction l with
  | nil => simp
  | cons x l ih =>
    obtain ⟨hx, hl⟩ := List.nodup_cons.mp hnodup
    have hsplit : given (x :: l) = given [x] ++ given l := List.filterMap_append (l := [x]) (l' := l)
    intro e he
    rw [hsplit, List.filter_append]
    rcases List.mem_cons.mp he with rfl | he
    · rw [hskip l e.1 hx, List.append_nil, List.filter_eq_self]
      intro y hy
      simpa using mem_given hy
    · have hne : x.1 ≠ e.1 := fun h => hx (List.mem_map.mpr ⟨e, he, h.symm⟩)
      rw [ih hl e he, hskip [x] e.1 (by simpa using hne.symm), List.nil_append]

/-- With every group required, the error is that of the first group in the layout's order that is missing or whose operand is
refused (rules R143, R270; log entry 7). -/
theorem convertGroups_firstError {P : Params} {l : Layout} {args : Args} {ops : List (Group × Option Operand)}
    (h : ∀ e ∈ ops, args.filter (fun x => x.1 == e.1) = given [e]) :
    answerKind (convertGroups P l args true (ops.map (·.1))) =
      firstError (ops.map (fun e => required (groupErr l e.1) (convertError P l e.1) e.2)) := by
  induction ops with
  | nil => rfl
  | cons e ops ih =>
    obtain ⟨he, hops⟩ := List.forall_mem_cons.mp h
    obtain ⟨g, o⟩ := e
    rw [List.map_cons, List.map_cons]
    cases o with
    | none =>
      rw [convertGroups_cons_missing he]
      rfl
    | some o =>
      cases hc : convert P l g o with
      | error k =>
        rw [convertGroups_cons_refused true he hc]
        simp [answerKind, required, convertError, hc, firstError]
      | ok fs =>
        rw [answerKind_convertGroups_cons he hc, ih hops]
        simp [required, convertError, hc, firstError]

/-- The operands of the groups of a layout name no other group. -/
theorem hasUnknown_given {l : Layout} {ops : List (Group × Option Operand)} (h : ops.map (·.1) = layoutGroups l) :
    hasUnknown l (given ops) = false := by
  refine List.any_eq_false.mpr fun e he => ?_
  have := h ▸ mem_given he
  simpa using this

/-- Only `L_PAIRS` has operands by default (rules R104, R148). -/
theorem fillSlots_of_ne_pairs {l : Layout} (args : Args) (h : l ≠ .lPairs) : fillSlots l args = args := by
  cases l with
  | lPairs => exact absurd rfl h
  | _ => rfl

/-- The check of a full set of operands, for the layouts without a default (rules R104, R143). -/
theorem collect_firstError {P : Params} {l : Layout} {ops : List (Group × Option Operand)}
    (hl : ops.map (·.1) = layoutGroups l) (hnodup : (layoutGroups l).Nodup) (hfill : l ≠ .lPairs) :
    answerKind (collect P l (given ops) true) =
      firstError (ops.map (fun e => required (groupErr l e.1) (convertError P l e.1) e.2)) := by
  rw [collect_known true (hasUnknown_given hl), if_pos rfl, fillSlots_of_ne_pairs _ hfill, ← hl]
  exact convertGroups_firstError (filter_given (hl ▸ hnodup))

/-! ## The answer of `ENC` -/

theorem answerKind_encFrame (P : Params) (row : CmdRow) (wlen : Nat) (nv : Bool) (args : Args) :
    answerKind (encFrame P row wlen nv args) = answerKind (collect P row.layout args true) := by
  unfold encFrame pack
  cases collect P row.layout args true <;> rfl

/-- `ENC` of a writable row answers the frame, or writes the error to `res` and nothing else (rules R140, R271). -/
theorem encRequest_res {P : Params} {cmd : Byte} {ch wlen : Nat} {s : State} {row : CmdRow}
    (hrow : lookupRow P.cmdtab cmd ch = some row) (hw : row.wlen = some wlen) :
    (encRequest P cmd ch false s).res = answerKind (collect P row.layout s.opArgs true) ∧
      ((encRequest P cmd ch false s).res ≠ .noError →
        encRequest P cmd ch false s = refusedHere (encRequest P cmd ch false s).res s) := by
  rw [← answerKind_encFrame P row wlen false]
  simp only [encRequest, hrow, hw, Bool.false_and]
  cases encFrame P row wlen false s.opArgs with
  | error k => exact ⟨rfl, fun _ => rfl⟩
  | ok f => exact ⟨rfl, fun h => absurd rfl h⟩

/-- `ENC` of a writable row whose groups are all required reports the first error in the layout's order, and then writes
nothing else (rules R143, R271). -/
theorem encRequest_firstError {P : Params} {cmd : Byte} {ch wlen : Nat} {s : State} {row : CmdRow} {l : Layout}
    {ops : List (Group × Option Operand)} (hrow : lookupRow P.cmdtab cmd ch = some row) (hw : row.wlen = some wlen)
    (hlay : row.layout = l) (hl : ops.map (·.1) = layoutGroups l) (hnodup : (layoutGroups l).Nodup) (hfill : l ≠ .lPairs)
    (hargs : s.opArgs = given ops) :
    (encRequest P cmd ch false s).res =
        firstError (ops.map (fun e => required (groupErr l e.1) (convertError P l e.1) e.2)) ∧
      ((encRequest P cmd ch false s).res ≠ .noError →
        encRequest P cmd ch false s = refusedHere (encRequest P cmd ch false s).res s) := by
  obtain ⟨hres, hrefused⟩ := encRequest_res (s := s) hrow hw
  rw [hargs, hlay, collect_firstError hl hnodup hfill] at hres
  exact ⟨hres, hrefused⟩

/-! ## The checks of the two clocks' groups -/

theorem uintField_error (P : Params) (l : Layout) (g : Group) {pos w : Nat} {lo hi base : Int} {k : ErrorKind}
    (h : convert P l g = uintField pos w lo hi base k) : convertError P l g = intError lo hi k := by
  funext o
  rw [convertError, h]
  cases o with
  | int v => unfold uintField intError; dsimp only; split_ifs <;> rfl
  | _ => rfl

theorem convertError_timeHour (P : Params) : convertError P .lTime .hour = timeHourError := by
  funext o
  cases o with
  | h24 h => simp only [convertError, convert, timeHourField, timeHourError]; split_ifs <;> rfl
  | am h => simp only [convertError, convert, timeHourField, timeHourError]; split_ifs <;> rfl
  | pm h => simp only [convertError, convert, timeHourField, timeHourError]; split_ifs <;> rfl
  | _ => rfl

theorem convertError_alarmMinute (P : Params) :
    convertError P .lAlarm .minute = alarmMinuteError P.periodMin P.periodMax := by
  funext o
  cases o with
  | minuteOf m => simp only [convertError, convert, alarmMinuteField, alarmMinuteError]; split_ifs <;> rfl
  | period n => simp only [convertError, convert, alarmMinuteField, alarmMinuteError]; split_ifs <;> rfl
  | _ => rfl

theorem convertError_alarmHour (P : Params) : convertError P .lAlarm .hour = alarmHourError := by
  funext o
  cases o with
  | hourOf h => simp only [convertError, convert, alarmHourField, hourSpec, alarmHourError]; split_ifs <;> rfl
  | hourAm h => simp only [convertError, convert, alarmHourField, hourSpec, alarmHourError]; split_ifs <;> rfl
  | hourPm h => simp only [convertError, convert, alarmHourField, hourSpec, alarmHourError]; split_ifs <;> rfl
  | hourPair a b =>
    simp only [convertError, convert, alarmHourField, hourSpec, alarmHourError, and_assoc]; split_ifs <;> rfl
  | _ => rfl

theorem convertError_alarmDay (P : Params) : convertError P .lAlarm .day = alarmDayError := by
  funext o
  cases o with
  | dayOfMonth d => simp only [convertError, convert, alarmDayField, alarmDayError]; split_ifs <;> rfl
  | weekdayOf d => simp only [convertError, convert, alarmDayField, alarmDayError]; split_ifs <;> rfl
  | weekdayPair a b => simp only [convertError, convert, alarmDayField, alarmDayError, and_assoc]; split_ifs <;> rfl
  | _ => rfl

end Sys2Proof.Machine
end
section
namespace Sys2Proof.Claims
open Sys2Proof Sys2Proof.Machine Host

/-- Settles O20: the checks of the layout's groups, one by one, are the conversions' errors. -/
theorem encRtcTimeFirstErrorWins : Obligations.EncRtcTimeFirstErrorWins := by
  refine ⟨fun _ => rfl, fun P htab s second minute hour weekday day month year hargs => ?_⟩
  have hrow : lookupRow P.cmdtab 0xB0 0 = some rowRtcTime := by rw [htab]; rfl
  obtain ⟨hres, hrefused⟩ := encRequest_firstError (l := .lTime) hrow rfl rfl rfl (by decide) (by decide) hargs
  refine ⟨?_, hrefused⟩
  simpa only [List.map_cons, List.map_nil, groupErr, convertError_timeHour,
    uintField_error P .lTime .second rfl, uintField_error P .lTime .minute rfl, uintField_error P .lTime .weekday rfl,
    uintField_error P .lTime .day rfl, uintField_error P .lTime .month rfl, uintField_error P .lTime .year rfl] using hres

end Sys2Proof.Claims
end

section
/-! A payload from its fields (rules R9, R142): fields that do not meet read back what was inserted, and the bytes of a
payload are its eight-bit fields. -/

namespace Sys2Proof.Machine
open Sys2Proof.Claims Host

/-- Two fields share no payload bit (rule R86). -/
def Field.Apart (f g : Field) : Prop := g.pos + g.w ≤ f.pos ∨ f.pos + f.w ≤ g.pos

theorem extBits_foldl_insField_apart (p : Bytes) {fs : List Field} {pos w : Nat}
    (h : ∀ f ∈ fs, pos + w ≤ f.pos ∨ f.pos + f.w ≤ pos) : extBits (fs.foldl insField p) pos w = extBits p pos w := by
  apply extBits_congr
  intro c hlo hhi
  refine payloadBit_foldl_insField_outside p fun f hf => ?_
  have := h f hf
  omega

/-- Every field of a list of fields that do not meet reads back as inserted (rules R9, R142). -/
theorem extBits_foldl_insField {p : Bytes} {fs : List Field} (hfit : ∀ f ∈ fs, f.pos + f.w ≤ 8 * p.length ∧ f.v < 2 ^ f.w)
    (hapart : fs.Pairwise Field.Apart) : ∀ f ∈ fs, extBits (fs.foldl insField p) f.pos f.w = f.v := by
  induction fs generalizing p with
  | nil => simp
  | cons g fs ih =>
    obtain ⟨⟨hgpos, hgv⟩, hfs⟩ := List.forall_mem_cons.mp hfit
    obtain ⟨hg, hrest⟩ := List.pairwise_cons.mp hapart
    intro f hf
    rw [List.foldl_cons]
    rcases List.mem_cons.mp hf with rfl | hf
    · rw [extBits_foldl_insField_apart _ fun x hx => (hg x hx).symm, insField, extBits_insBits_same p _ _ _ hgpos hgv]
    · exact ih (p := insField p g) (by simpa [insField] using hfs) hrest f hf

/-- A byte of a payload is its eight-bit field (rule R9). -/
theorem payload_eq_map_extBits (p : Bytes) : p = (List.range p.length).map (fun k => byte (extBits p (8 * k) 8)) := by
  apply List.ext_getElem (by simp)
  intro k hk _
  have hbyte : extBits p (8 * k) 8 = p[k].toNat := by
    rw [extBits_byte p (8 * k) 8 (by omega)]
    simpa [hk] using p[k].isLt
  simp [hbyte, byte]

theorem extBits_zeros (n pos w : Nat) : extBits (zeros n) pos w = 0 := by
  induction w with
  | zero => rfl
  | succ w ih =>
    have hbit : payloadBit (zeros n) (pos + w) = false := by
      simp only [payloadBit, zeros, List.getD_eq_getElem?_getD, List.getElem?_replicate]
      split <;> simp
    simp [extBits, ih, hbit]

/-- The fields of an alarm, group by group in the layout's order (rule R101). -/
def alarmFields (second b1 periodic hm hour12 b5 dom : Nat) : List Field :=
  [⟨0, 6, second⟩, ⟨8, 6, b1⟩, ⟨49, 1, periodic⟩, ⟨16, 24, hm⟩, ⟨50, 1, hour12⟩, ⟨40, 7, b5⟩, ⟨48, 1, dom⟩]

/-- A payload that reads as an alarm's fields, its other bits zero, is the alarm's seven bytes (rules R101, R150). -/
theorem alarmBytes_of_fields {second b1 periodic hm hour12 b5 dom : Nat} {p : Bytes} (hlen : p.length = 7)
    (hread : ∀ f ∈ alarmFields second b1 periodic hm hour12 b5 dom, extBits p f.pos f.w = f.v)
    (hunused : extBits p 6 2 = 0 ∧ extBits p 14 2 = 0 ∧ extBits p 47 1 = 0 ∧ extBits p 51 5 = 0) :
    p = [byte second, byte b1, byte (hm % 256), byte (hm / 256 % 256), byte (hm / 65536), byte b5,
      byte (hour12 * 4 + periodic * 2 + dom)] := by
  simp only [alarmFields, List.forall_mem_cons, List.not_mem_nil, false_implies, implies_true, and_true] at hread
  obtain ⟨hsecond, hb1, hperiodic, hhm, hhour12, hb5, hdom⟩ := hread
  obtain ⟨h0, h1, h5, h6⟩ := hunused
  have byte0 : extBits p 0 8 = extBits p 0 6 + extBits p 6 2 * 64 := extBits_add p 0 6 2
  have byte1 : extBits p 8 8 = extBits p 8 6 + extBits p 14 2 * 64 := extBits_add p 8 6 2
  have mask : extBits p 16 24 = extBits p 16 8 + extBits p 24 16 * 256 := extBits_add p 16 8 16
  have maskHigh : extBits p 24 16 = extBits p 24 8 + extBits p 32 8 * 256 := extBits_add p 24 8 8
  have byte2_lt : extBits p 16 8 < 256 := extBits_lt p 16 8
  have byte3_lt : extBits p 24 8 < 256 := extBits_lt p 24 8
  have byte5 : extBits p 40 8 = extBits p 40 7 + extBits p 47 1 * 128 := extBits_add p 40 7 1
  have byte6 : extBits p 48 8 = extBits p 48 1 + extBits p 49 7 * 2 := extBits_add p 48 1 7
  have flags : extBits p 49 7 = extBits p 49 1 + extBits p 50 6 * 2 := extBits_add p 49 1 6
  have flagHour : extBits p 50 6 = extBits p 50 1 + extBits p 51 5 * 2 := extBits_add p 50 1 5
  rw [payload_eq_map_extBits p, hlen]
  change [byte (extBits p 0 8), byte (extBits p 8 8), byte (extBits p 16 8), byte (extBits p 24 8), byte (extBits p 32 8),
    byte (extBits p 40 8), byte (extBits p 48 8)] = _
  congr <;> omega

/-- The payload of an alarm whose values fit their fields (rules R101, R150). -/
theorem alarmPayload_eq {second b1 periodic hm hour12 b5 dom : Nat} (hs : second < 64) (hb1 : b1 < 64) (hp : periodic < 2)
    (hhm : hm < 2 ^ 24) (hh : hour12 < 2) (hb5 : b5 < 128) (hd : dom < 2) :
    (alarmFields second b1 periodic hm hour12 b5 dom).foldl insField (zeros 7) =
      [byte second, byte b1, byte (hm % 256), byte (hm / 256 % 256), byte (hm / 65536), byte b5,
        byte (hour12 * 4 + periodic * 2 + dom)] := by
  have hunused : ∀ pos w, (∀ f ∈ alarmFields second b1 periodic hm hour12 b5 dom, pos + w ≤ f.pos ∨ f.pos + f.w ≤ pos) →
      extBits ((alarmFields second b1 periodic hm hour12 b5 dom).foldl insField (zeros 7)) pos w = 0 :=
    fun pos w h => (extBits_foldl_insField_apart _ h).trans (extBits_zeros ..)
  refine alarmBytes_of_fields (by simp) (extBits_foldl_insField ?_ ?_) ⟨?_, ?_, ?_, ?_⟩
  · simp [alarmFields]; omega
  · simp [alarmFields, Field.Apart]
  all_goals exact hunused _ _ (by simp [alarmFields])

/-! ## The operand forms of an alarm -/

theorem alarmMinuteField_of_form {o : Operand} {b1 periodic : Nat} (h : MinuteForm o b1 periodic) :
    alarmMinuteField defaults o = .ok [⟨8, 6, b1⟩, ⟨49, 1, periodic⟩] ∧ b1 < 64 ∧ periodic < 2 := by
  rcases h with ⟨hb, rfl, rfl⟩ | ⟨hpos, hb, rfl, rfl⟩
  · have hrange : (0 : Int) ≤ b1 ∧ (b1 : Int) ≤ 59 := by omega
    exact ⟨if_pos hrange, by omega, by omega⟩
  · have hrange : ((defaults.periodMin : Nat) : Int) < b1 ∧ (b1 : Int) ≤ (defaults.periodMax : Nat) := by
      simp only [defaults, Config.periodMin, Config.periodMax]; omega
    exact ⟨if_pos hrange, by omega, by omega⟩

theorem shiftLeft_lt {h n : Nat} (hh : h < n) : 1 <<< h < 2 ^ n := by
  rw [Nat.one_shiftLeft]
  exact Nat.pow_lt_pow_right (by decide) hh

/-- The hour operands in range select a mask (rules R101, R106). -/
theorem alarmHourField_of_form {o : Operand} {hm hour12 : Nat} (h : HourForm o hm hour12) :
    alarmHourField o = .ok [⟨16, 24, hm⟩, ⟨50, 1, hour12⟩] ∧ hm < 2 ^ 24 ∧ hour12 < 2 := by
  have key : ∃ sel, hourSpec o = some (sel, hour12) ∧ selectionMask 24 sel = hm ∧ hm < 2 ^ 24 ∧ hour12 < 2 := by
    rcases h with ⟨h, hh, rfl, rfl, rfl⟩ | ⟨h, hlo, hh, rfl, rfl, rfl⟩ | ⟨h, hlo, hh, rfl, rfl, rfl⟩ |
      ⟨a, b, ha, hb, hab, rfl, rfl, rfl⟩ | ⟨rfl, rfl, rfl⟩
    · exact ⟨.one h, if_pos (by omega), (Nat.one_shiftLeft _).symm, shiftLeft_lt (by omega), by decide⟩
    · exact ⟨.one (h % 12), if_pos (by omega), (Nat.one_shiftLeft _).symm, shiftLeft_lt (by omega), by decide⟩
    · exact ⟨.one (h % 12 + 12), if_pos (by omega), (Nat.one_shiftLeft _).symm, shiftLeft_lt (by omega), by decide⟩
    · exact ⟨.pair a b, if_pos (by omega), by simp [selectionMask, Nat.one_shiftLeft],
        Nat.or_lt_two_pow (shiftLeft_lt (by omega)) (shiftLeft_lt (by omega)), by decide⟩
    · exact ⟨.all, rfl, rfl, by decide, by decide⟩
  obtain ⟨sel, hsel, rfl, hbounds⟩ := key
  exact ⟨by simp only [alarmHourField, hsel], hbounds⟩

theorem alarmDayField_of_form {o : Operand} {b5 dom : Nat} (h : DayForm o b5 dom) :
    alarmDayField o = .ok [⟨40, 7, b5⟩, ⟨48, 1, dom⟩] ∧ b5 < 128 ∧ dom < 2 := by
  rcases h with ⟨d, hlo, hd, rfl, rfl, rfl⟩ | ⟨d, hlo, hd, rfl, rfl, rfl⟩ | ⟨a, b, ha, ha', hb, hb', hab, rfl, rfl, rfl⟩ |
    ⟨rfl, rfl, rfl⟩
  · exact ⟨if_pos (by omega), by omega, by decide⟩
  · have hrange : (1 : Int) ≤ d ∧ (d : Int) ≤ 7 := by omega
    refine ⟨(if_pos hrange).trans (by simp [selectionMask, Nat.one_shiftLeft]), ?_, by decide⟩
    exact shiftLeft_lt (n := 7) (by omega)
  · have hrange : (1 : Int) ≤ a ∧ (a : Int) ≤ 7 ∧ (1 : Int) ≤ b ∧ (b : Int) ≤ 7 ∧ (a : Int) ≠ b := by omega
    refine ⟨(if_pos hrange).trans (by simp [selectionMask, Nat.one_shiftLeft]), ?_, by decide⟩
    exact Nat.or_lt_two_pow (n := 7) (shiftLeft_lt (by omega)) (shiftLeft_lt (by omega))
  · exact ⟨rfl, by decide, by decide⟩

/-- The operands of an alarm in range convert to its fields (rules R142, R150). -/
theorem collect_alarm {second b1 periodic hm hour12 b5 dom : Nat} {minute hour day : Operand} (hs : second ≤ 59)
    (hminute : MinuteForm minute b1 periodic) (hhour : HourForm hour hm hour12) (hday : DayForm day b5 dom) :
    collect defaults .lAlarm [(.second, .int second), (.minute, minute), (.hour, hour), (.day, day)] true =
      .ok (alarmFields second b1 periodic hm hour12 b5 dom) := by
  have hsec : convert defaults .lAlarm .second (.int second) = .ok [⟨0, 6, second⟩] := by
    have hrange : (0 : Int) ≤ second ∧ (second : Int) ≤ 59 := by omega
    exact (if_pos hrange).trans (by simp)
  have hmin : convert defaults .lAlarm .minute minute = _ := (alarmMinuteField_of_form hminute).1
  have hhr : convert defaults .lAlarm .hour hour = _ := (alarmHourField_of_form hhour).1
  have hd : convert defaults .lAlarm .day day = _ := (alarmDayField_of_form hday).1
  rw [collect_known true rfl]
  exact convertGroups_cons_ok rfl hsec (convertGroups_cons_ok rfl hmin (convertGroups_cons_ok rfl hhr
    (convertGroups_cons_ok rfl hd rfl)))

/-- `ENC` of operands that convert answers their frame (rule R140). -/
theorem encRequest_of_collect {P : Params} {cmd : Byte} {ch wlen : Nat} {s : State} {row : CmdRow} {fs : List Field}
    (hrow : lookupRow P.cmdtab cmd ch = some row) (hw : row.wlen = some wlen)
    (hc : collect P row.layout s.opArgs true = .ok fs) :
    encRequest P cmd ch false s =
      answered (.frame (appendCk (insNv row false (fs.foldl insField (zeros wlen))))) none s := by
  simp only [encRequest, hrow, hw, Bool.false_and, encFrame, pack, hc]
  rfl

end Sys2Proof.Machine
end

section
namespace Sys2Proof.Claims
open Sys2Proof Sys2Proof.Machine Host

/-- Settles O21: operands in range convert to the seven bytes' fields, and the checks of the layout's groups, one by one,
are the conversions' errors. -/
theorem encRtcAlarmFrame : Obligations.EncRtcAlarmFrame := by
  refine ⟨fun s second b1 periodic hm hour12 b5 dom minute hour day hs hminute hhour hday hargs => ?_, fun _ => rfl,
    fun P htab s second minute hour day hargs => ?_⟩
  · obtain ⟨-, hb1, hp⟩ := alarmMinuteField_of_form hminute
    obtain ⟨-, hhm, hh⟩ := alarmHourField_of_form hhour
    obtain ⟨-, hb5, hd⟩ := alarmDayField_of_form hday
    have hcollect := hargs ▸ collect_alarm hs hminute hhour hday
    have hframe := encRequest_of_collect (P := defaults) (cmd := 0xB9) (ch := 0) (row := rowRtcAlarm) rfl rfl hcollect
    rw [alarmPayload_eq (by omega) hb1 hp hhm hh hb5 hd] at hframe
    exact congrArg Outcome.next hframe
  · have hrow : lookupRow P.cmdtab 0xB9 0 = some rowRtcAlarm := by rw [htab]; rfl
    obtain ⟨hres, hrefused⟩ := encRequest_firstError (l := .lAlarm) hrow rfl rfl rfl (by decide) (by decide) hargs
    refine ⟨?_, hrefused⟩
    simpa only [List.map_cons, List.map_nil, groupErr, uintField_error P .lAlarm .second rfl, convertError_alarmMinute,
      convertError_alarmHour, convertError_alarmDay] using hres

end Sys2Proof.Claims
end

section
/-! The kinds a request is refused with (rules R86, R93, R143): a field kind that does not take its operand, or a group that
is missing or repeated, answers an argument error, and that is never `NoError`. -/

namespace Sys2Proof.Machine

theorem ne_noError_of_isArgumentError {k : ErrorKind} (h : isArgumentError k = true) : k ≠ .noError := by
  rintro rfl
  exact absurd h (by decide)

/-- A conversion of operands that refuses with argument errors only. -/
def RefusesByArgument (f : Operand → Except ErrorKind (List Field)) : Prop :=
  ∀ o k, f o = .error k → isArgumentError k = true

/-! ## The field kinds -/

theorem flagField_refuses (pos : Nat) {e : ErrorKind} (he : isArgumentError e = true) :
    RefusesByArgument (flagField pos e) := by
  intro o k h
  unfold flagField at h
  split at h <;> cases h
  exact he

theorem uintField_refuses (pos w : Nat) (lo hi base : Int) {e : ErrorKind} (he : isArgumentError e = true) :
    RefusesByArgument (uintField pos w lo hi base e) := by
  intro o k h
  unfold uintField at h
  split at h
  · split at h <;> cases h
    exact he
  · cases h
    exact he

theorem signedField_refuses (pos n : Nat) : RefusesByArgument (signedField pos n) := by
  intro o k h
  unfold signedField at h
  split at h
  · split at h <;> cases h
    rfl
  · cases h
    rfl

theorem batteryField_refuses (pos : Nat) : RefusesByArgument (batteryField pos) := by
  intro o k h
  unfold batteryField at h
  split at h <;> cases h
  rfl

theorem inputField_refuses (pos : Nat) : RefusesByArgument (inputField pos) := by
  intro o k h
  unfold inputField at h
  split at h <;> cases h
  rfl

theorem dutyField_refuses (pos : Nat) : RefusesByArgument (dutyField pos) := by
  intro o k h
  unfold dutyField at h
  split at h
  · split at h <;> cases h
    rfl
  · cases h
    rfl

theorem enumField_refuses (pos w : Nat) (names : List Operand) : RefusesByArgument (enumField pos w names) := by
  intro o k h
  unfold enumField at h
  split at h <;> cases h
  rfl

theorem maskField_refuses (pos nbits : Nat) {e : ErrorKind} (he : isArgumentError e = true) :
    RefusesByArgument (maskField pos nbits e) := by
  intro o k h
  unfold maskField at h
  split at h
  · split at h <;> cases h
    exact he
  · split at h <;> cases h
    exact he
  · cases h
  · cases h
    exact he

theorem kindField_refuses (pos : Nat) {kind : FieldKind} (hk : kindWellFormed kind = true) :
    RefusesByArgument (kindField pos kind) := by
  cases kind with
  | flag => exact flagField_refuses pos rfl
  | uint w lo hi e => exact uintField_refuses pos w lo hi 0 (Bool.and_eq_true_iff.mp hk).2
  | enum w names => exact enumField_refuses pos w names
  | s8 => exact signedField_refuses pos 8
  | s16 => exact signedField_refuses pos 16
  | duty10 => exact dutyField_refuses pos
  | mask nbits e => exact maskField_refuses pos nbits (Bool.and_eq_true_iff.mp hk).2

/-- The error a well-formed field kind names is an argument error (rules R86, R93). -/
theorem kindErr_isArgumentError {kind : FieldKind} (hk : kindWellFormed kind = true) :
    isArgumentError (kindErr kind) = true := by
  cases kind with
  | uint w lo hi e => exact (Bool.and_eq_true_iff.mp hk).2
  | mask nbits e => exact (Bool.and_eq_true_iff.mp hk).2
  | _ => rfl

/-! ## The groups of several fields -/

theorem timeHourField_refuses : RefusesByArgument timeHourField := by
  intro o k h
  unfold timeHourField at h
  split at h
  case h_4 => cases h; rfl
  all_goals
    split at h <;> cases h
    rfl

theorem alarmMinuteField_refuses (P : Params) : RefusesByArgument (alarmMinuteField P) := by
  intro o k h
  unfold alarmMinuteField at h
  split at h
  case h_3 => cases h; rfl
  all_goals
    split at h <;> cases h
    rfl

theorem alarmHourField_refuses : RefusesByArgument alarmHourField := by
  intro o k h
  unfold alarmHourField at h
  split at h <;> cases h
  rfl

theorem alarmDayField_refuses : RefusesByArgument alarmDayField := by
  intro o k h
  unfold alarmDayField at h
  split at h
  case h_4 => cases h
  case h_5 => cases h; rfl
  all_goals
    split at h <;> cases h
    rfl

theorem slotField_refuses (P : Params) (i : Nat) : RefusesByArgument (slotField P i) := by
  intro o k h
  unfold slotField at h
  split at h
  · split at h
    · cases h; rfl
    · split at h <;> cases h
      rfl
  · cases h
    rfl

/-! ## The groups of a layout -/

theorem fieldOf_kindWellFormed {fs : List LayoutField} {g : Group} {f : LayoutField}
    (hl : layoutWellFormed (.fields fs) = true) (hf : fieldOf fs g = some f) : kindWellFormed f.kind = true :=
  List.all_eq_true.mp (Bool.and_eq_true_iff.mp hl).2 f (List.mem_of_find?_eq_some hf)

theorem listedField_refuses {fs : List LayoutField} (hl : layoutWellFormed (.fields fs) = true) (g : Group) :
    RefusesByArgument (listedField fs g) := by
  intro o k h
  unfold listedField at h
  split at h
  · rename_i f hf
    exact kindField_refuses f.pos (fieldOf_kindWellFormed hl hf) o k h
  · cases h
    rfl

/-- An operand of a well-formed layout is refused with an argument error (rules R86, R93, R143). -/
theorem convert_refuses {P : Params} {l : Layout} (hl : layoutWellFormed l = true) (g : Group) :
    RefusesByArgument (convert P l g) := by
  unfold convert
  split
  exacts [flagField_refuses 0 rfl, flagField_refuses 1 rfl, batteryField_refuses 2, inputField_refuses 4,
    inputField_refuses 6, signedField_refuses 0 8, signedField_refuses 0 16, flagField_refuses 0 rfl,
    uintField_refuses _ _ _ _ _ rfl, dutyField_refuses 0, uintField_refuses _ _ _ _ _ rfl,
    uintField_refuses _ _ _ _ _ rfl, timeHourField_refuses, uintField_refuses _ _ _ _ _ rfl,
    uintField_refuses _ _ _ _ _ rfl, uintField_refuses _ _ _ _ _ rfl, uintField_refuses _ _ _ _ _ rfl,
    uintField_refuses _ _ _ _ _ rfl, alarmMinuteField_refuses P, alarmHourField_refuses, alarmDayField_refuses,
    slotField_refuses P _, listedField_refuses hl g, fun _ _ h => by cases h; rfl]

/-- A missing or repeated group of a well-formed layout is an argument error (rule R93). -/
theorem groupErr_isArgumentError {l : Layout} (hl : layoutWellFormed l = true) (g : Group) :
    isArgumentError (groupErr l g) = true := by
  cases l with
  | fields fs =>
    change isArgumentError ((fieldOf fs g).elim .badArgument (fun f => kindErr f.kind)) = true
    cases hf : fieldOf fs g with
    | none => rfl
    | some f => exact kindErr_isArgumentError (fieldOf_kindWellFormed hl hf)
  | _ => cases g <;> rfl

theorem convertGroups_refuses {P : Params} {l : Layout} (hl : layoutWellFormed l = true) {args : Args} {all : Bool}
    {gs : List Group} {k : ErrorKind} (h : convertGroups P l args all gs = .error k) : isArgumentError k = true := by
  obtain ⟨-, g, -, -, -, -, ⟨o, -, hc⟩ | rfl⟩ := convertGroups_error h
  · exact convert_refuses hl g o k hc
  · exact groupErr_isArgumentError hl g

/-- Operands that a well-formed layout does not take are refused with an argument error (rules R93, R143, R262 g). -/
theorem collect_refuses {P : Params} {l : Layout} (hl : layoutWellFormed l = true) {args : Args} {all : Bool}
    {k : ErrorKind} (h : collect P l args all = .error k) : isArgumentError k = true := by
  unfold collect at h
  split at h
  · split at h
    · cases h
      rfl
    · split at h
      · rename_i hc
        cases h
        exact convertGroups_refuses hl hc
      · cases h
        rfl
  · exact convertGroups_refuses hl h

theorem encFrame_refuses {P : Params} {row : CmdRow} (hl : layoutWellFormed row.layout = true) {wlen : Nat} {nv : Bool}
    {args : Args} {k : ErrorKind} (h : encFrame P row wlen nv args = .error k) : isArgumentError k = true := by
  unfold encFrame pack at h
  split at h
  · rename_i hp
    split at hp
    · rename_i hc
      cases hp
      cases h
      exact collect_refuses hl hc
    · cases hp
  · cases h

/-! ## The rows of a table -/

/-- A row of an admissible table has a well-formed layout, and its `unk` is one of two kinds (rule R90). -/
theorem rowWellFormed_layout_unk {m : Nat} {row : CmdRow} (h : rowWellFormed m row = true) :
    layoutWellFormed row.layout = true ∧ (row.unk = .unknownData ∨ row.unk = .unknownConfig) := by
  simp only [rowWellFormed, Bool.and_eq_true, Bool.or_eq_true, beq_iff_eq] at h
  obtain ⟨⟨-, hunk⟩, hlay⟩ := h
  exact ⟨hlay, hunk⟩

theorem lookupRow_wellFormed {P : Params} (hP : paramsWellFormed P = true) {cmd : Byte} {ch : Nat} {row : CmdRow}
    (h : lookupRow P.cmdtab cmd ch = some row) : rowWellFormed (P.frameMax - 1) row = true :=
  cmdtabWellFormed_mem (paramsWellFormed_cmdtab hP) row (lookupRow_spec h).1

end Sys2Proof.Machine
end

section
/-! What a request makes of its operands (rules R21, R33): a reply, for a single-step request, or a start, for a transfer
request. Two states with the same operands get the same reply and the same start. -/

namespace Sys2Proof.Machine
open Host

/-! ## The word of an instruction -/

/-- Every instruction is the meaning of its own word (rules R81, R89). -/
theorem decode_encode (i : Instr) : decode (encode i) = .ok i := by
  cases i
  case csAbsorb imm => revert imm; decide +kernel
  case encChargingConfig nv => cases nv <;> rfl
  case xferWrChargingConfig nv => cases nv <;> rfl
  case xferWrvChargingConfig nv => cases nv <;> rfl
  case xferRmwChargingConfig nv => cases nv <;> rfl
  all_goals rfl

/-- An instruction is served as its word's fields say. -/
theorem exec_eq_requestFor (i : Instr) (s : State) : exec i s = .next (requestFor defaults (encode i) s) := by
  rw [← acceptWord_eq, acceptWord, decode_encode]

/-- A word that decodes is `CS.INIT`, `CS.ABSORB`, an operation 3 to 7 or a transfer (rule R81). -/
theorem decode_ok_cases {w : ReqWord} {i : Instr} (h : decode w = .ok i) :
    i = .csInit ∨ (∃ imm, i = .csAbsorb imm) ∨ (3 ≤ fieldOp w ∧ fieldOp w ≤ 7) ∨ (8 ≤ fieldOp w ∧ fieldOp w ≤ 11) := by
  unfold decode at h
  split at h
  case h_1 =>
    unfold decodeCs at h
    split at h <;> cases h
    exact .inl rfl
  case h_2 =>
    split at h <;> cases h
    exact .inr (.inl ⟨_, rfl⟩)
  case h_12 => cases h
  all_goals omega

/-- The requests that write `acc` have the operations 1 and 2 (rule R81). -/
theorem fieldOp_le_of_writes_acc {i : Instr} (h : i = .csInit ∨ ∃ imm, i = .csAbsorb imm) : fieldOp (encode i) ≤ 2 := by
  rcases h with rfl | ⟨imm, rfl⟩
  · decide
  · revert imm
    decide +kernel

/-! ## Replies -/

/-- The response of a single-step request: an error kind, or `Ok(v)` with the optional flag (rules R30, R271). -/
inductive Reply where
  | refuse (k : ErrorKind) (hk : k ≠ .noError)
  | answer (v : RVal) (nv : Option Bool)

/-- The state after a reply. -/
def Reply.write : Reply → State → State
  | .refuse k _, s => raiseSingle k s
  | .answer v nv, s => respond v nv s

/-- The states `s` and `u` get the same reply, and `s'` and `u'` are the states after it. -/
def RepliedAlike (s u s' u' : State) : Prop := ∃ r : Reply, s' = r.write s ∧ u' = r.write u

section
variable {P : Params} {s u s' u' : State}

theorem repliedAlike_refuse {k : ErrorKind} (hk : k ≠ .noError) : RepliedAlike s u (raiseSingle k s) (raiseSingle k u) :=
  ⟨.refuse k hk, rfl, rfl⟩

theorem repliedAlike_badArgument : RepliedAlike s u (raiseSingle .badArgument s) (raiseSingle .badArgument u) :=
  repliedAlike_refuse (by decide)

theorem repliedAlike_answer (v : RVal) (nv : Option Bool) : RepliedAlike s u (respond v nv s) (respond v nv u) :=
  ⟨.answer v nv, rfl, rfl⟩

/-- Nothing but the response registers is written by a reply (rules R21, R140, R180). -/
theorem RepliedAlike.frame (h : RepliedAlike s u s' u') :
    s' = { s with res := s'.res, rval := s'.rval, rnv := s'.rnv } := by
  obtain ⟨r, rfl, -⟩ := h
  cases r <;> rfl

/-- Equal replies leave the same response; an error leaves `rval` and `rnv` as they were (rule R271). -/
theorem RepliedAlike.response (h : RepliedAlike s u s' u') :
    s'.res = u'.res ∧ (s'.res = .noError → s'.rval = u'.rval ∧ s'.rnv = u'.rnv) := by
  obtain ⟨r, rfl, rfl⟩ := h
  cases r with
  | refuse k hk => exact ⟨rfl, fun h => absurd h hk⟩
  | answer v nv => exact ⟨rfl, fun _ => ⟨rfl, rfl⟩⟩

theorem repliedAlike_csServed (z : Bool) (h : RepliedAlike s u s' u') :
    RepliedAlike s u (csServed z s s') (csServed z u u') := by
  cases z
  · exact repliedAlike_badArgument
  · exact h

theorem repliedAlike_codecServed (w : ReqWord) (h : RepliedAlike s u s' u') :
    RepliedAlike s u (codecServed w s s') (codecServed w u u') := by
  unfold codecServed
  split
  · exact repliedAlike_badArgument
  · exact h

theorem csInitRequest_alike (s u : State) : RepliedAlike (setAcc 0xFF s) (setAcc 0xFF u) (csInitRequest s) (csInitRequest u) :=
  repliedAlike_answer _ _

/-- `CS.ABSORB` replies from `acc`, and writes it (rules R21, R121). -/
theorem csAbsorbRequest_alike (imm : Byte) (hacc : s.acc = u.acc) :
    RepliedAlike (setAcc (s.acc ^^^ imm) s) (setAcc (s.acc ^^^ imm) u) (csAbsorbRequest imm s) (csAbsorbRequest imm u) := by
  unfold csAbsorbRequest
  rw [hacc]
  exact repliedAlike_answer _ _

theorem csComputeRequest_alike (P : Params) (hbytes : s.opBytes = u.opBytes) :
    RepliedAlike s u (csComputeRequest P s) (csComputeRequest P u) := by
  unfold csComputeRequest
  rw [hbytes]
  split
  · exact repliedAlike_answer _ _
  · exact repliedAlike_badArgument

theorem csVerifyRequest_alike (P : Params) (hbytes : s.opBytes = u.opBytes) :
    RepliedAlike s u (csVerifyRequest P s) (csVerifyRequest P u) := by
  unfold csVerifyRequest
  rw [hbytes]
  split
  · exact repliedAlike_answer _ _
  · exact repliedAlike_badArgument

theorem csAppendRequest_alike (P : Params) (hbytes : s.opBytes = u.opBytes) :
    RepliedAlike s u (csAppendRequest P s) (csAppendRequest P u) := by
  unfold csAppendRequest
  rw [hbytes]
  split
  · exact repliedAlike_answer _ _
  · exact repliedAlike_badArgument

/-- `ENC` replies from `args` alone (rule R140). -/
theorem encRequest_alike (hP : paramsWellFormed P = true) (cmd : Byte) (ch : Nat) (nv : Bool) (hargs : s.opArgs = u.opArgs) :
    RepliedAlike s u (encRequest P cmd ch nv s) (encRequest P cmd ch nv u) := by
  unfold encRequest
  rw [hargs]
  split
  · exact repliedAlike_badArgument
  rename_i row hrow
  have hlay := (rowWellFormed_layout_unk (lookupRow_wellFormed hP hrow)).1
  split
  · exact repliedAlike_badArgument
  split
  · exact repliedAlike_badArgument
  split
  · rename_i hf
    exact repliedAlike_refuse (ne_noError_of_isArgumentError (encFrame_refuses hlay hf))
  · exact repliedAlike_answer _ _

/-- `DEC` replies from `bytes` alone (rule R180). -/
theorem decRequest_alike (hP : paramsWellFormed P = true) (cmd : Byte) (ch : Nat) (hbytes : s.opBytes = u.opBytes) :
    RepliedAlike s u (decRequest P cmd ch s) (decRequest P cmd ch u) := by
  unfold decRequest
  rw [hbytes]
  split
  · exact repliedAlike_badArgument
  rename_i row hrow
  have hunk : row.unk ≠ .noError := by
    rcases (rowWellFormed_layout_unk (lookupRow_wellFormed hP hrow)).2 with h | h <;> rw [h] <;> decide
  split
  · exact repliedAlike_badArgument
  split
  · exact repliedAlike_badArgument
  split
  · unfold decodePayload
    cases unpack P row.layout (pay u.opBytes _) with
    | none => exact repliedAlike_refuse hunk
    | some r => exact repliedAlike_answer _ _
  · exact repliedAlike_refuse (by decide)

/-- The operations 3 to 7 reply, from `args` and `bytes` alone (rules R21, R81). -/
theorem requestFor_repliedAlike (hP : paramsWellFormed P = true) {w : ReqWord} (hop : 3 ≤ fieldOp w ∧ fieldOp w ≤ 7)
    (hargs : s.opArgs = u.opArgs) (hbytes : s.opBytes = u.opBytes) :
    RepliedAlike s u (requestFor P w s) (requestFor P w u) := by
  have hops : fieldOp w = 3 ∨ fieldOp w = 4 ∨ fieldOp w = 5 ∨ fieldOp w = 6 ∨ fieldOp w = 7 := by omega
  unfold fieldOp at hops
  unfold requestFor
  rcases hops with h | h | h | h | h <;> rw [h]
  · exact repliedAlike_csServed _ (csComputeRequest_alike P hbytes)
  · exact repliedAlike_csServed _ (csVerifyRequest_alike P hbytes)
  · exact repliedAlike_csServed _ (csAppendRequest_alike P hbytes)
  · exact repliedAlike_codecServed w (encRequest_alike hP _ _ _ hargs)
  · refine repliedAlike_codecServed w ?_
    split
    · exact repliedAlike_badArgument
    · exact decRequest_alike hP _ _ hbytes

end

/-! ## Starts -/

/-- How a transfer request starts: refused, with a read, or with a write of its frame (T0r to T0c of rule R221). -/
inductive Start where
  | refuse (k : ErrorKind)
  | read (m : Mode) (c : Byte) (nv : Bool)
  | write (m : Mode) (c : Byte) (nv : Bool) (f : Bytes)

/-- The state after a start: the latches of rules R29 and R33, and the frame of a write in `wbuf`. -/
def Start.enter : Start → State → State
  | .refuse k, s => raiseMulti k s
  | .read m c nv, s => goto .rdTry (latch m .pre c nv s)
  | .write m c nv f, s => goto .wrTry (loadWbuf f (latch m .write c nv s))

/-- The states `s` and `u` make the same start, and `s'` and `u'` are the states after it. -/
def StartedAlike (s u s' u' : State) : Prop := ∃ e : Start, s' = e.enter s ∧ u' = e.enter u

section
variable {P : Params} {s u s' u' : State}

theorem startedAlike_refuse (k : ErrorKind) : StartedAlike s u (raiseMulti k s) (raiseMulti k u) :=
  ⟨.refuse k, rfl, rfl⟩

/-- No start touches `acc` (rule R21). -/
theorem StartedAlike.acc_eq (h : StartedAlike s u s' u') : s'.acc = s.acc := by
  obtain ⟨e, rfl, -⟩ := h
  cases e <;> rfl

theorem startedAlike_transferServed (w : ReqWord) (h : StartedAlike s u s' u') :
    StartedAlike s u (transferServed w s s') (transferServed w u u') := by
  unfold transferServed
  split
  · exact startedAlike_refuse _
  · exact h

theorem acceptRd_alike (P : Params) (cmd : Byte) (ch : Nat) (s u : State) :
    StartedAlike s u (acceptRd P cmd ch s) (acceptRd P cmd ch u) := by
  unfold acceptRd
  split
  · exact startedAlike_refuse _
  split
  · exact startedAlike_refuse _
  · exact ⟨.read .rd _ false, rfl, rfl⟩

theorem acceptWrite_alike (P : Params) (m : Mode) (cmd : Byte) (ch : Nat) (nv : Bool) (hargs : s.opArgs = u.opArgs) :
    StartedAlike s u (acceptWrite P m cmd ch nv s) (acceptWrite P m cmd ch nv u) := by
  unfold acceptWrite
  rw [hargs]
  split
  · exact startedAlike_refuse _
  split
  · exact startedAlike_refuse _
  split
  · exact startedAlike_refuse _
  split
  · exact startedAlike_refuse _
  split
  · exact startedAlike_refuse _
  · exact ⟨.write m _ nv _, rfl, rfl⟩

theorem acceptRmw_alike (P : Params) (cmd : Byte) (ch : Nat) (nv : Bool) (hargs : s.opArgs = u.opArgs) :
    StartedAlike s u (acceptRmw P cmd ch nv s) (acceptRmw P cmd ch nv u) := by
  unfold acceptRmw
  rw [hargs]
  split
  · exact startedAlike_refuse _
  split
  · exact startedAlike_refuse _
  split
  · exact startedAlike_refuse _
  split
  · exact startedAlike_refuse _
  split
  · exact startedAlike_refuse _
  · exact ⟨.read .rmw _ nv, rfl, rfl⟩

/-- The transfer operations start from `args` alone (rules R33, R222). -/
theorem requestFor_startedAlike (P : Params) {w : ReqWord} (hop : 8 ≤ fieldOp w ∧ fieldOp w ≤ 11)
    (hargs : s.opArgs = u.opArgs) : StartedAlike s u (requestFor P w s) (requestFor P w u) := by
  have hops : fieldOp w = 8 ∨ fieldOp w = 9 ∨ fieldOp w = 10 ∨ fieldOp w = 11 := by omega
  unfold fieldOp at hops
  unfold requestFor
  rcases hops with h | h | h | h <;> rw [h] <;> refine startedAlike_transferServed w ?_
  · split
    · exact startedAlike_refuse _
    · exact acceptRd_alike P _ _ s u
  · exact acceptWrite_alike P .wr _ _ _ hargs
  · exact acceptWrite_alike P .wrv _ _ _ hargs
  · exact acceptRmw_alike P _ _ _ hargs

/-- A request that writes `acc` is `CS.INIT` or `CS.ABSORB` (rule R21). -/
theorem requestFor_acc {w : ReqWord} (h : (requestFor defaults w s).acc ≠ s.acc) :
    decode w = .ok .csInit ∨ ∃ imm, decode w = .ok (.csAbsorb imm) := by
  have hacc := acceptWord_eq w s
  unfold acceptWord at hacc
  cases hd : decode w with
  | error e =>
    rw [hd] at hacc
    injection hacc with hacc
    rcases refuseWord_spec w s with ⟨-, he⟩ | ⟨-, he⟩ <;> exact absurd (by rw [← hacc, he]; rfl) h
  | ok i =>
    rcases decode_ok_cases hd with rfl | ⟨imm, rfl⟩ | hop | hop
    · exact .inl rfl
    · exact .inr ⟨imm, rfl⟩
    · have hreply : RepliedAlike s s _ _ := requestFor_repliedAlike defaults_wellFormed hop rfl rfl
      exact absurd (congrArg State.acc hreply.frame) h
    · exact absurd (requestFor_startedAlike (u := s) defaults hop rfl).acc_eq h

end

end Sys2Proof.Machine
end

section
namespace Sys2Proof.Claims
open Sys2Proof Sys2Proof.Machine Host

/-- Settles O15: the operations 3 to 7 reply, and a reply writes the response registers. -/
theorem codecChangesOnlyTheResponse : Obligations.CodecChangesOnlyTheResponse := by
  intro i s t hi h
  rw [exec_eq_requestFor] at h
  injection h with h
  have hreply : RepliedAlike s s _ _ := requestFor_repliedAlike defaults_wellFormed hi rfl rfl
  exact h ▸ hreply.frame

/-- A transfer request's first registers, from an equal start and equal operands (rules R29, R33). -/
theorem startedAlike_latches {s u s' u' : State} (hn : s.opN = u.opN) (hargs : s.opArgs = u.opArgs)
    (h : StartedAlike s u s' u') :
    s'.st = u'.st ∧ (s'.st = .done → s'.res = u'.res) ∧
      (s'.st ≠ .done →
        s'.mode = u'.mode ∧ s'.phase = u'.phase ∧ s'.n = u'.n ∧ s'.cmdr = u'.cmdr ∧ s'.nvr = u'.nvr ∧
        s'.argr = u'.argr ∧ s'.tries = u'.tries ∧ s'.lastfail = u'.lastfail ∧
        (s'.phase = .write → s'.wbuf = u'.wbuf ∧ s'.wlen = u'.wlen)) := by
  obtain ⟨e, rfl, rfl⟩ := h
  cases e with
  | refuse k => exact ⟨rfl, fun _ => rfl, fun h => absurd rfl h⟩
  | read m c nv => exact ⟨rfl, nofun, fun _ => ⟨rfl, rfl, hn, rfl, rfl, hargs, rfl, rfl, nofun⟩⟩
  | write m c nv f => exact ⟨rfl, nofun, fun _ => ⟨rfl, rfl, hn, rfl, rfl, hargs, rfl, rfl, fun _ => ⟨rfl, rfl⟩⟩⟩

/-- Settles O33: a single-step request replies and a transfer request starts from its operands alone; `CS.ABSORB` replies
from `acc` too. -/
theorem requestDependsOnItsOperandsOnly : Obligations.RequestDependsOnItsOperandsOnly := by
  intro i s u s' u' hn hargs hbytes hacc hs hu
  have hle : (i = .csInit ∨ ∃ imm, i = .csAbsorb imm) → fieldOp (encode i) ≤ 2 := fieldOp_le_of_writes_acc
  rcases decode_ok_cases (decode_encode i) with rfl | ⟨imm, rfl⟩ | ⟨hlo, hhi⟩ | ⟨hlo, hhi⟩
  · cases hs
    cases hu
    have hsingle : ¬ IsXfer .csInit := fun hx => absurd hx.1 (by decide)
    exact ⟨fun hx => absurd hx hsingle, fun _ => (csInitRequest_alike s u).response, fun _ => rfl⟩
  · cases hs
    cases hu
    have hacc := hacc ⟨imm, rfl⟩
    have hsingle : ¬ IsXfer (.csAbsorb imm) := fun hx => absurd (hx.1.trans (hle (.inr ⟨imm, rfl⟩))) (by decide)
    exact ⟨fun hx => absurd hx hsingle, fun _ => (csAbsorbRequest_alike imm hacc).response,
      fun _ => congrArg (· ^^^ imm) hacc⟩
  all_goals
    rw [exec_eq_requestFor] at hs hu
    cases hs
    cases hu
  · have hsingle : ¬ IsXfer i := fun hx => absurd (hx.1.trans hhi) (by decide)
    have hreply : RepliedAlike s u _ _ := requestFor_repliedAlike defaults_wellFormed ⟨hlo, hhi⟩ hargs hbytes
    exact ⟨fun hx => absurd hx hsingle, fun _ => hreply.response, fun hi => absurd (hlo.trans (hle hi)) (by decide)⟩
  · have hstart : StartedAlike s u _ _ := requestFor_startedAlike defaults ⟨hlo, hhi⟩ hargs
    exact ⟨fun _ => startedAlike_latches hn hargs hstart, fun hx => absurd ⟨hlo, hhi⟩ hx,
      fun hi => absurd (hlo.trans (hle hi)) (by decide)⟩

end Sys2Proof.Claims
end

section
/-! What each kind of step leaves unchanged: the reset, the configuration write, the acceptance of a request and the
transitions of the engine (rules R21, R31, R58, R301). -/

namespace Sys2Proof.Machine
open Host

/-! ## The step by its inputs -/

/-- The reset input comes first (rule R301). -/
theorem step_of_rst {s : State} (h : s.rst = true) : step s = .next (resetEngine s) := if_pos h

/-- Then comes a configuration write (rules R31, R305). -/
theorem step_of_cfgPort {s : State} {w : CfgWrite} (hrst : s.rst = false) (hcfg : s.cfgPort = some w) :
    step s = .next (configure w s) := by
  simp [step, hrst, hcfg]

/-- In `IDLE` the engine then serves the request at the port (rule R220). -/
theorem step_of_request {s : State} {r : Request} {rest : List Request} (hrst : s.rst = false) (hcfg : s.cfgPort = none)
    (hst : s.st = .idle) (hreqs : s.reqs = r :: rest) :
    step s = .next (requestFor defaults r.word (Claims.atPort r rest s)) := by
  rw [← acceptWord_eq]
  simp [step, idleStep, fetch, hrst, hcfg, hst, hreqs, Claims.atPort]

/-! ## The configuration port -/

theorem configure_acc_trace (w : CfgWrite) (s : State) :
    (configure w s).acc = s.acc ∧ (configure w s).trace = s.trace := by
  rcases configure_spec w s with ⟨-, -, he⟩ | ⟨-, -, he⟩ | ⟨-, he⟩ <;> rw [he] <;> exact ⟨rfl, rfl⟩

/-! ## The acceptance of a request -/

/-- No request makes a call or configures the Transport as it is accepted (rules R31, R33). -/
theorem accepted_frame {P : Params} {s t : State} (h : Accepted P s t) :
    t.trace = s.trace ∧ t.cfgBus = s.cfgBus ∧ t.cfgAddr = s.cfgAddr := by
  cases h <;> exact ⟨rfl, rfl, rfl⟩

/-! ## The transitions of the engine -/

/-- The registers that no transition of rule R221 writes: the accumulator and the handle of the Transport. -/
structure Keeps (s t : State) : Prop where
  acc_eq : t.acc = s.acc
  cfgBus_eq : t.cfgBus = s.cfgBus
  cfgAddr_eq : t.cfgAddr = s.cfgAddr

section
variable {P : Params} {s s' t : State}

theorem keeps_memRead {reg : Byte} {len : Nat} {a : Option Bytes} (h : memRead P reg len s = some (a, s')) : Keeps s s' := by
  obtain ⟨-, rfl⟩ := memRead_spec h
  exact ⟨rfl, rfl, rfl⟩

theorem keeps_memWrite {reg : Byte} {f : Bytes} {ok : Bool} (h : memWrite P reg f s = some (ok, s')) : Keeps s s' := by
  obtain ⟨d, -, rfl⟩ := memWrite_spec h
  exact ⟨rfl, rfl, rfl⟩

theorem memRead_trace {reg : Byte} {len : Nat} {a : Option Bytes} (h : memRead P reg len s = some (a, s')) :
    s'.trace = .read s.cfgBus s.cfgAddr reg len :: s.trace := by
  obtain ⟨-, rfl⟩ := memRead_spec h
  rfl

theorem memWrite_trace {reg : Byte} {f : Bytes} {ok : Bool} (h : memWrite P reg f s = some (ok, s')) :
    s'.trace = .write s.cfgBus s.cfgAddr reg f :: s.trace := by
  obtain ⟨d, -, rfl⟩ := memWrite_spec h
  rfl

/-- The decode step keeps those registers and makes no call (rule R230). -/
theorem readDecode_frame (row : CmdRow) (rlen : Nat) :
    Keeps s (readDecode P row rlen s) ∧ (readDecode P row rlen s).trace = s.trace := by
  rcases readDecode_spec P row rlen s with ⟨v, nv, he⟩ | ⟨k, he⟩ <;> rw [he] <;> exact ⟨⟨rfl, rfl, rfl⟩, rfl⟩

/-- No transition writes the accumulator or the handle (rules R21, R31). -/
theorem transition_keeps (h : Transition P s t) : Keeps s t := by
  cases h with
  | t2a row rlen a s' hst hlt hrow hlen hm => exact { keeps_memRead hm with }
  | t2b row rlen f s' hst hlt hrow hlen hm => exact { keeps_memRead hm with }
  | t2c row rlen f s' hst hlt hrow hlen hm =>
    obtain ⟨hacc, hbus, haddr⟩ := keeps_memRead hm
    obtain ⟨⟨hacc', hbus', haddr'⟩, -⟩ := readDecode_frame (P := P) (s := loadRbuf f (countAttempt s')) row rlen
    exact ⟨hacc'.trans hacc, hbus'.trans hbus, haddr'.trans haddr⟩
  | t2d row rlen f g s' hst hlt hrow hlen hm => exact { keeps_memRead hm with }
  | t2e row rlen f s' hst hlt hrow hlen hm => exact { keeps_memRead hm with }
  | t5a s' hst hlt hm => exact { keeps_memWrite hm with }
  | t5b s' hst hlt hm => exact { keeps_memWrite hm with }
  | t5c s' hst hlt hm => exact { keeps_memWrite hm with }
  | _ => exact ⟨rfl, rfl, rfl⟩

/-- A transition makes at most one call: a read in `RD_TRY` or the write of `wbuf` in `WR_TRY`, with attempts left (rules
R58, R61, R221). -/
theorem transition_calls (h : Transition P s t) :
    t.trace = s.trace ∨
    (s.st = .rdTry ∧ s.tries < s.n ∧ ∃ len, t.trace = .read s.cfgBus s.cfgAddr s.cmdr len :: s.trace) ∨
    (s.st = .wrTry ∧ s.tries < s.n ∧ t.trace = .write s.cfgBus s.cfgAddr s.cmdr (writeFrame s) :: s.trace) := by
  cases h with
  | t2a row rlen a s' hst hlt hrow hlen hm => exact .inr (.inl ⟨hst, hlt, _, (memRead_trace hm :)⟩)
  | t2b row rlen f s' hst hlt hrow hlen hm => exact .inr (.inl ⟨hst, hlt, _, (memRead_trace hm :)⟩)
  | t2c row rlen f s' hst hlt hrow hlen hm =>
    exact .inr (.inl ⟨hst, hlt, _, (readDecode_frame row rlen).2.trans (memRead_trace hm :)⟩)
  | t2d row rlen f g s' hst hlt hrow hlen hm => exact .inr (.inl ⟨hst, hlt, _, (memRead_trace hm :)⟩)
  | t2e row rlen f s' hst hlt hrow hlen hm => exact .inr (.inl ⟨hst, hlt, _, (memRead_trace hm :)⟩)
  | t5a s' hst hlt hm => exact .inr (.inr ⟨hst, hlt, (memWrite_trace hm :)⟩)
  | t5b s' hst hlt hm => exact .inr (.inr ⟨hst, hlt, (memWrite_trace hm :)⟩)
  | t5c s' hst hlt hm => exact .inr (.inr ⟨hst, hlt, (memWrite_trace hm :)⟩)
  | _ => exact .inl rfl

end

end Sys2Proof.Machine
end

section
namespace Sys2Proof.Claims
open Sys2Proof Sys2Proof.Machine Host

/-- Settles O14: of the steps without reset only the acceptance of a request writes `acc`, and that request is `CS.INIT` or
`CS.ABSORB`. -/
theorem onlyCsInitAndAbsorbTouchAcc : Obligations.OnlyCsInitAndAbsorbTouchAcc := by
  intro s t h hrst hacc
  rcases step_cases h with ⟨hr, -⟩ | ⟨-, w, -, rfl⟩ | ⟨-, hcfg, hst, r, rest, hreqs, -⟩ | ⟨-, -, ht⟩
  · simp [hrst] at hr
  · exact absurd (configure_acc_trace w s).1 hacc
  · rw [step_of_request hrst hcfg hst hreqs] at h
    cases h
    exact ⟨hst, r, rest, hreqs, requestFor_acc hacc⟩
  · exact absurd (transition_keeps ht).acc_eq hacc

/-- Settles O49: only a transition makes a call, and it makes one at most. -/
theorem atMostOneCallPerStep : Obligations.AtMostOneCallPerStep := by
  intro s t h
  rcases step_cases h with ⟨-, rfl⟩ | ⟨-, w, -, rfl⟩ | ⟨-, -, -, r, rest, -, ha⟩ | ⟨-, -, ht⟩
  · exact .inl rfl
  · exact .inl (configure_acc_trace w s).2
  · exact .inl (accepted_frame ha).1
  · exact transition_calls ht

/-- Settles O50: a configuration write is served before the engine, and neither a request nor a transition configures. -/
theorem configurationPort : Obligations.ConfigurationPort := by
  refine fun s => ⟨fun w hrst hcfg hst => ?_, fun w hrst hcfg hst => ?_, fun t h hrst hcfg => ?_⟩
  · exact (step_of_cfgPort hrst hcfg).trans (congrArg Outcome.next (if_pos hst))
  · exact (step_of_cfgPort hrst hcfg).trans (congrArg Outcome.next (if_neg hst))
  · rcases step_cases h with ⟨hr, -⟩ | ⟨-, w, hw, -⟩ | ⟨-, -, -, r, rest, -, ha⟩ | ⟨-, -, ht⟩
    · simp [hrst] at hr
    · simp [hcfg] at hw
    · exact (accepted_frame ha).2
    · exact ⟨(transition_keeps ht).cfgBus_eq, (transition_keeps ht).cfgAddr_eq⟩

/-- Settles O56: the register codes at reset, read off `State.reset`. -/
theorem resetValues : Obligations.ResetValues :=
  ⟨rfl, rfl, rfl, rfl, rfl, rfl, rfl, rfl, rfl, rfl, rfl, rfl, rfl, rfl⟩

/-- Settles O57: the reset input comes before the other inputs, and its step writes the engine's registers. -/
theorem resetAbandonsTheRequest : Obligations.ResetAbandonsTheRequest := fun s hrst =>
  ⟨resetEngine s, step_of_rst hrst, rfl, rfl, rfl, rfl, rfl, rfl, rfl, rfl, rfl, rfl, rfl, rfl, rfl, rfl, rfl, rfl, rfl, rfl,
    rfl, rfl, rfl, rfl, rfl⟩

end Sys2Proof.Claims
end

section
/-! The acceptance of a transfer request whose row is found and has what the request needs: of the checks of rule R222 only
those of the operands are left (T0a, T0b, T0c, T0r of rule R221). -/

namespace Sys2Proof.Machine
open Sys2Proof.Claims Host

section
variable {P : Params} {cmd : Byte} {ch : Nat} {row : CmdRow} {nv : Bool} {s : State}

/-! ## The checks of the operands -/

theorem acceptRd_of_row (hrow : lookupRow P.cmdtab cmd ch = some row) (hlen : row.rlen.isSome = true) :
    acceptRd P cmd ch s = goto .rdTry (latch .rd .pre (effCode row ch) false s) := by
  obtain ⟨rlen, hr⟩ := Option.isSome_iff_exists.mp hlen
  simp only [acceptRd, hrow, hr]

/-- What rule R222 d and e ask of the row of a write: a comparator for `XFER.WRV`, and the flag `nv` if it is set. -/
def WriteServed (m : Mode) (row : CmdRow) (nv : Bool) : Prop :=
  ¬ (m = .wrv ∧ row.verify = none) ∧ (nv && !row.nv) = false

theorem acceptWrite_of_encodes {m : Mode} {wlen : Nat} {f : Bytes} (hrow : lookupRow P.cmdtab cmd ch = some row)
    (hlen : row.wlen = some wlen) (hserved : WriteServed m row nv) (hf : encFrame P row wlen nv s.opArgs = .ok f) :
    acceptWrite P m cmd ch nv s = goto .wrTry (loadWbuf f (latch m .write (effCode row ch) nv s)) := by
  obtain ⟨hd, hnv⟩ := hserved
  simp only [acceptWrite, hrow, hlen, hd, hnv, hf, if_false, Bool.false_eq_true]

theorem acceptWrite_of_refuses {m : Mode} {wlen : Nat} {k : ErrorKind} (hrow : lookupRow P.cmdtab cmd ch = some row)
    (hlen : row.wlen = some wlen) (hserved : WriteServed m row nv) (hf : encFrame P row wlen nv s.opArgs = .error k) :
    acceptWrite P m cmd ch nv s = raiseMulti k s := by
  obtain ⟨hd, hnv⟩ := hserved
  simp only [acceptWrite, hrow, hlen, hd, hnv, hf, if_false, Bool.false_eq_true]

/-- What rule R222 d and e ask of the row of `XFER.RMW`. -/
def ModifyServed (row : CmdRow) (nv : Bool) : Prop :=
  ¬ (row.wlen = none ∨ row.rlen ≠ row.wlen ∨ row.verify = none) ∧ (nv && !row.nv) = false

theorem acceptRmw_of_converts {fs : List Field} (hrow : lookupRow P.cmdtab cmd ch = some row)
    (hserved : ModifyServed row nv) (hargs : s.opArgs ≠ []) (hc : collect P row.layout s.opArgs false = .ok fs) :
    acceptRmw P cmd ch nv s = goto .rdTry (latch .rmw .pre (effCode row ch) nv s) := by
  obtain ⟨hd, hnv⟩ := hserved
  simp only [acceptRmw, hrow, hd, hnv, hargs, hc, if_false, Bool.false_eq_true]

theorem acceptRmw_of_no_operand (hrow : lookupRow P.cmdtab cmd ch = some row) (hserved : ModifyServed row nv)
    (hargs : s.opArgs = []) : acceptRmw P cmd ch nv s = raiseMulti .badArgument s := by
  obtain ⟨hd, hnv⟩ := hserved
  simp only [acceptRmw, hrow, hd, hnv, hargs, if_false, if_true, Bool.false_eq_true]

theorem acceptRmw_of_refuses {k : ErrorKind} (hrow : lookupRow P.cmdtab cmd ch = some row)
    (hserved : ModifyServed row nv) (hargs : s.opArgs ≠ []) (hc : collect P row.layout s.opArgs false = .error k) :
    acceptRmw P cmd ch nv s = raiseMulti k s := by
  obtain ⟨hd, hnv⟩ := hserved
  simp only [acceptRmw, hrow, hd, hnv, hargs, hc, if_false, Bool.false_eq_true]

end

/-! ## The transfer requests of the default table -/

/-- Every `XFER.RD` is accepted as the read of a readable row (rule R223). -/
theorem reads_served : ∀ e ∈ reads, ∃ cmd ch row, (∀ s, exec e.1 s = .next (acceptRd defaults cmd ch s)) ∧
    lookupRow defaults.cmdtab cmd ch = some row ∧ row.rlen.isSome = true ∧ effCode row ch = e.2 := by
  simp only [reads, List.forall_mem_cons, List.not_mem_nil, false_imp_iff, implies_true, and_true]
  and_intros
  all_goals exact ⟨_, _, _, fun _ => rfl, rfl, rfl, rfl⟩

/-- A writing request with its flag, row and effective command code is accepted as `accept` says. -/
def ServedAs (accept : Byte → Nat → Bool → State → State) (e : Instr × Bool × CmdRow × Byte) : Prop :=
  ∃ cmd ch, (∀ s, exec e.1 s = .next (accept cmd ch e.2.1 s)) ∧ lookupRow defaults.cmdtab cmd ch = some e.2.2.1 ∧
    effCode e.2.2.1 ch = e.2.2.2

theorem plainWrites_servedAs : ∀ e ∈ plainWrites, ServedAs (acceptWrite defaults .wr) e := by
  simp only [plainWrites, List.forall_mem_cons, List.not_mem_nil, false_imp_iff, implies_true, and_true]
  and_intros
  all_goals exact ⟨_, _, fun _ => rfl, rfl, rfl⟩

theorem verifiedWrites_servedAs : ∀ e ∈ verifiedWrites, ServedAs (acceptWrite defaults .wrv) e := by
  simp only [verifiedWrites, List.forall_mem_cons, List.not_mem_nil, false_imp_iff, implies_true, and_true]
  and_intros
  all_goals exact ⟨_, _, fun _ => rfl, rfl, rfl⟩

theorem modifies_servedAs : ∀ e ∈ modifies, ServedAs (acceptRmw defaults) e := by
  simp only [modifies, List.forall_mem_cons, List.not_mem_nil, false_imp_iff, implies_true, and_true]
  and_intros
  all_goals exact ⟨_, _, fun _ => rfl, rfl, rfl⟩

/-- The rows of the writing requests have what rule R222 d and e ask. -/
theorem plainWrites_served : ∀ e ∈ plainWrites, WriteServed .wr e.2.2.1 e.2.1 := by unfold WriteServed; decide

theorem verifiedWrites_served : ∀ e ∈ verifiedWrites, WriteServed .wrv e.2.2.1 e.2.1 := by unfold WriteServed; decide

theorem modifies_served : ∀ e ∈ modifies, ModifyServed e.2.2.1 e.2.1 := by unfold ModifyServed; decide

end Sys2Proof.Machine

namespace Sys2Proof.Claims
open Sys2Proof Sys2Proof.Machine Host

/-- Settles O30: every entry names a readable row, and such a request is latched for its read. -/
theorem xferRdIsAccepted : Obligations.XferRdIsAccepted := by
  intro e he s
  obtain ⟨cmd, ch, row, hexec, hrow, hlen, hc⟩ := reads_served e he
  rw [hexec, acceptRd_of_row hrow hlen, hc]
  rfl

/-- Settles O31: every entry names a writable row that serves it, so that the encoding of the operands decides. -/
theorem xferWrAndWrvAreAcceptedOrRefused : Obligations.XferWrAndWrvAreAcceptedOrRefused := by
  intro m e he s wlen hlen
  have hentry : ServedAs (acceptWrite defaults m) e ∧ WriteServed m e.2.2.1 e.2.1 := by
    rcases he with ⟨rfl, he⟩ | ⟨rfl, he⟩
    · exact ⟨plainWrites_servedAs e he, plainWrites_served e he⟩
    · exact ⟨verifiedWrites_servedAs e he, verifiedWrites_served e he⟩
  obtain ⟨⟨cmd, ch, hexec, hrow, hc⟩, hserved⟩ := hentry
  refine ⟨fun f hf => ?_, fun k hf => ?_⟩
  · rw [hexec, acceptWrite_of_encodes hrow hlen hserved hf, hc, ← encFrame_length hf]
    rfl
  · rw [hexec, acceptWrite_of_refuses hrow hlen hserved hf]
    rfl

/-- Settles O32: every entry names a row that serves a modify, so that the conversion of the operands decides. -/
theorem xferRmwIsAcceptedOrRefused : Obligations.XferRmwIsAcceptedOrRefused := by
  intro e he s
  obtain ⟨cmd, ch, hexec, hrow, hc⟩ := modifies_servedAs e he
  have hserved := modifies_served e he
  refine ⟨fun fs hargs hfs => ?_, fun hargs => ?_, fun k hargs hfs => ?_⟩
  · rw [hexec, acceptRmw_of_converts hrow hserved hargs hfs, hc]
    rfl
  · rw [hexec, acceptRmw_of_no_operand hrow hserved hargs]
    rfl
  · rw [hexec, acceptRmw_of_refuses hrow hserved hargs hfs]
    rfl

end Sys2Proof.Claims
end

section
/-! A returned read attempt (T2a and T2b of rule R221): the step of a quiet engine in `RD_TRY` is what the answer makes of the
attempt. -/

namespace Sys2Proof.Machine
open Host

/-- Without a reset or a configuration write a step outside `IDLE` is a transition of the engine (rule R220). -/
theorem step_of_quiet {s : State} (h : Claims.Quiet s) (hst : s.st ≠ .idle) : step s = fsmStep defaults s := by
  obtain ⟨hrst, hcfg⟩ := h
  simp [step, hrst, hcfg, hst]

section
variable {P : Params} {s : State}

theorem fsmStep_of_rdTry (h : s.st = .rdTry) : fsmStep P s = rdTryStep P s := by
  simp only [fsmStep, h]

theorem rdTryStep_of_lt (h : s.tries < s.n) : rdTryStep P s = readAttempt P s := by
  rw [rdTryStep, if_neg (BitVec.ne_of_lt h), if_pos h]

theorem memRead_of_answer {reg : Byte} {len : Nat} {a : Option Bytes} (h : readAnswer P reg len s = some a) :
    memRead P reg len s = some (a, recordCall (.read s.cfgBus s.cfgAddr reg len) (devBefore P s) s) := by
  simp only [memRead, h]

theorem readAttempt_of_answer {row : CmdRow} {rlen : Nat} {a : Option Bytes} (hrow : rowOf P.cmdtab s.cmdr = some row)
    (hlen : row.rlen = some rlen) (h : readAnswer P s.cmdr (rlen + 1) s = some a) :
    readAttempt P s =
      readResult P row rlen a (recordCall (.read s.cfgBus s.cfgAddr s.cmdr (rlen + 1)) (devBefore P s) s) := by
  simp only [readAttempt, hrow, hlen, memRead_of_answer h]

/-- The step of a read attempt whose call returns (rules R54, R221). -/
theorem step_of_readAnswer {row : CmdRow} {rlen : Nat} {a : Option Bytes} (hq : Claims.Quiet s) (hst : s.st = .rdTry)
    (hlt : s.tries < s.n) (hrow : rowOf cmdtab s.cmdr = some row) (hlen : row.rlen = some rlen)
    (h : readAnswer defaults s.cmdr (rlen + 1) s = some a) :
    step s = readResult defaults row rlen a
      (recordCall (.read s.cfgBus s.cfgAddr s.cmdr (rlen + 1)) (devBefore defaults s) s) := by
  have hbusy : s.st ≠ .idle := by rw [hst]; decide
  rw [step_of_quiet hq hbusy, fsmStep_of_rdTry hst, rdTryStep_of_lt hlt, readAttempt_of_answer hrow hlen h]

/-! ## What the answer makes of the attempt -/

/-- T2a: `IoError` or a wrong length (rules R52, R221). -/
theorem readResult_of_no_frame {row : CmdRow} {rlen : Nat} {a : Option Bytes} (h : ∀ f, a = some f → f.length ≠ rlen + 1) :
    readResult P row rlen a s = .next (readFailed .comm s) := by
  cases a with
  | none => rfl
  | some f => exact if_pos (h f rfl)

/-- T2b: a frame of the asked length with a bad checksum (rule R221). -/
theorem readResult_of_corrupt {row : CmdRow} {rlen : Nat} {f : Bytes} (hlen : f.length = rlen + 1)
    (hv : verifyFrame f = false) : readResult P row rlen (some f) s = .next (readFailed .corrupt (loadRbuf f s)) := by
  simp [readResult, hlen, hv]

end

end Sys2Proof.Machine
end

section
namespace Sys2Proof.Claims
open Sys2Proof Sys2Proof.Machine Host

/-- Settles O35: the step is what the answer makes of the attempt, and neither answer gives a clean frame. -/
theorem failedReadAttempt : Obligations.FailedReadAttempt := by
  intro s row rlen a hq hst hlt hrow hlen hans
  have hstep := step_of_readAnswer hq hst hlt hrow hlen hans
  refine ⟨fun hnone => ?_, fun f hf hflen hv => ?_⟩
  · rw [hstep, readResult_of_no_frame hnone]
    rfl
  · subst hf
    rw [hstep, readResult_of_corrupt hflen hv, ← hflen]
    rfl

end Sys2Proof.Claims
end

section
/-! The fields of a request word and the decoder as an equivalence (rules R80, R81, R83, R89): a word decodes exactly when
its fields pass the checks, and then it is its instruction's word. -/

namespace Sys2Proof

open Sys2Proof.Machine

/-! ## The fields as numbers (rule R80) -/

theorem fieldOp_eq (w : ReqWord) : fieldOp w = w.toNat / 4096 := by
  simp only [fieldOp, BitVec.extractLsb'_toNat, Nat.shiftRight_eq_div_pow]
  omega

theorem fieldCh_eq (w : ReqWord) : fieldCh w = w.toNat / 512 % 4 := by
  simp only [fieldCh, BitVec.extractLsb'_toNat, Nat.shiftRight_eq_div_pow]

theorem fieldCmd_toNat (w : ReqWord) : (fieldCmd w).toNat = w.toNat % 256 := by
  simp [fieldCmd, BitVec.extractLsb'_toNat]

theorem toNat_getLsbD (w : ReqWord) (k : Nat) : (w.getLsbD k).toNat = w.toNat / 2 ^ k % 2 := by
  rw [BitVec.getLsbD, Nat.toNat_testBit]

theorem fieldNv_toNat (w : ReqWord) : (fieldNv w).toNat = w.toNat / 2048 % 2 := toNat_getLsbD w 11

theorem fieldZ_toNat (w : ReqWord) : (fieldZ w).toNat = w.toNat / 256 % 2 := toNat_getLsbD w 8

/-- The must-be-zero field of a `CS` request without an immediate (rule R83). -/
theorem low12_eq_zero (w : ReqWord) : w.extractLsb' 0 12 = 0 ↔ w.toNat % 4096 = 0 := by
  simp [← BitVec.toNat_inj, BitVec.extractLsb'_toNat]

/-- The must-be-zero field of `CS.ABSORB` (rule R83). -/
theorem bits11to8_eq_zero (w : ReqWord) : w.extractLsb' 8 4 = 0 ↔ w.toNat / 256 % 16 = 0 := by
  simp [← BitVec.toNat_inj, BitVec.extractLsb'_toNat, Nat.shiftRight_eq_div_pow]

/-- A word whose reserved bit is 0 is put together again from its fields (rule R80). -/
theorem mkWord_of_fields {w : ReqWord} {op ch : Nat} {nv : Bool} {cmd : Byte} (hop : fieldOp w = op)
    (hnv : fieldNv w = nv) (hch : fieldCh w = ch) (hcmd : fieldCmd w = cmd) (hz : fieldZ w = false) :
    mkWord op nv ch cmd = w := by
  subst hop hnv hch hcmd
  apply BitVec.eq_of_toNat_eq
  have hz := hz ▸ fieldZ_toNat w
  have hw := w.isLt
  rw [Bool.toNat_false] at hz
  rw [mkWord, BitVec.toNat_ofNat, fieldOp_eq, fieldCh_eq, fieldNv_toNat, fieldCmd_toNat]
  omega

/-! ## The operations that name a command -/

/-- The operation code (rule R81). -/
def opCode : CmdOp → Nat
  | .enc => 6 | .dec => 7 | .rd => 8 | .wr => 9 | .wrv => 10 | .rmw => 11

/-- The row serves the operation with this `nv` flag: checks d and e of rule R222, step 3 of rule R180. -/
def RowTakes (op : CmdOp) (nv : Bool) (row : CmdRow) : Prop :=
  serves row op = true ∧ (nv = true → takesNv row op = true)

theorem lookup_code : ∀ row ∈ cmdtab, lookup cmdtab row.code = some row := by decide

/-- What a row takes has an instruction, and that instruction's word has the fields it was found by (rules R81, R89). -/
theorem encode_cmdInstr (op : CmdOp) (nv : Bool) : ∀ row ∈ cmdtab, ∀ ch < row.chans, RowTakes op nv row →
    (cmdInstr op row.name ch nv).map encode = some (mkWord (opCode op) nv ch row.code) := by
  unfold RowTakes
  apply cmdtab_cases <;> cases op <;> cases nv <;> decide

/-- A word of an operation that names a command decodes exactly when its fields pass the checks (rules R83, R180, R222). -/
theorem decodeCmd_eq_ok_iff {op : CmdOp} {w : ReqWord} {i : Instr} :
    decodeCmd op w = .ok i ↔
      fieldZ w = false ∧ ∃ row ∈ cmdtab, row.code = fieldCmd w ∧ fieldCh w < row.chans ∧ RowTakes op (fieldNv w) row ∧
        cmdInstr op row.name (fieldCh w) (fieldNv w) = some i := by
  constructor
  · intro h
    unfold decodeCmd at h
    split at h
    · cases h
    rename_i hz
    split at h
    · cases h
    rename_i row hlook
    split at h
    · cases h
    rename_i hch
    split at h
    · cases h
    rename_i hserves
    split at h
    · cases h
    rename_i hnv
    split at h <;> cases h
    rename_i hi
    have hrow : lookupRow cmdtab (fieldCmd w) (fieldCh w) = some row := by
      simp [lookupRow, hlook, Nat.lt_of_not_le hch]
    obtain ⟨hmem, hcode, hlt⟩ := lookupRow_spec hrow
    exact ⟨by simpa using hz, row, hmem, hcode, hlt, ⟨by simpa using hserves, by simpa using hnv⟩, hi⟩
  · rintro ⟨hz, row, hmem, hcode, hlt, ⟨hserves, hnv⟩, hi⟩
    have hlook : lookup cmdtab (fieldCmd w) = some row := hcode ▸ lookup_code row hmem
    have hnv : (fieldNv w && !takesNv row op) = false := by simpa using hnv
    simp only [decodeCmd, hz, hlook, Nat.not_le.mpr hlt, hserves, hnv, hi, Bool.false_eq_true, Bool.true_eq_false, if_false]

/-- The word of an instruction that is found by its fields (rules R80, R89). -/
theorem encode_of_decodeCmd {op : CmdOp} {w : ReqWord} {i : Instr} (hop : fieldOp w = opCode op)
    (h : decodeCmd op w = .ok i) : encode i = w := by
  obtain ⟨hz, row, hmem, hcode, hlt, htakes, hi⟩ := decodeCmd_eq_ok_iff.mp h
  have hword := encode_cmdInstr op _ row hmem _ hlt htakes
  rw [hi, hcode] at hword
  exact (Option.some.inj hword).trans (mkWord_of_fields hop rfl rfl rfl hz)

/-- Such a word has an instruction exactly when its fields pass the checks: every row that takes the fields has one. -/
theorem decodeCmd_isOk_iff {op : CmdOp} {w : ReqWord} :
    (∃ i, decodeCmd op w = .ok i) ↔
      fieldZ w = false ∧ ∃ row ∈ cmdtab, row.code = fieldCmd w ∧ fieldCh w < row.chans ∧ RowTakes op (fieldNv w) row := by
  constructor
  · rintro ⟨i, h⟩
    obtain ⟨hz, row, hmem, hcode, hlt, htakes, -⟩ := decodeCmd_eq_ok_iff.mp h
    exact ⟨hz, row, hmem, hcode, hlt, htakes⟩
  · rintro ⟨hz, row, hmem, hcode, hlt, htakes⟩
    obtain ⟨i, hi, -⟩ := Option.map_eq_some_iff.mp (encode_cmdInstr op _ row hmem _ hlt htakes)
    exact ⟨i, decodeCmd_eq_ok_iff.mpr ⟨hz, row, hmem, hcode, hlt, htakes, hi⟩⟩

/-! ## The decoder -/

/-- The `CS` requests without an immediate, with their operation codes (rule R81). -/
def csOps : List (Nat × Instr) := [(1, .csInit), (3, .csCompute), (4, .csVerify), (5, .csAppend)]

/-- The three kinds of words that decode (rules R81, R83). -/
theorem decode_eq_ok_iff {w : ReqWord} {i : Instr} :
    decode w = .ok i ↔
      ((fieldOp w, i) ∈ csOps ∧ w.extractLsb' 0 12 = 0) ∨
      (fieldOp w = 2 ∧ w.extractLsb' 8 4 = 0 ∧ i = .csAbsorb (fieldCmd w)) ∨
      ∃ op, fieldOp w = opCode op ∧ decodeCmd op w = .ok i := by
  constructor
  · intro h
    have hcs : ∀ j, decodeCs j w = .ok i → (fieldOp w, j) ∈ csOps → (fieldOp w, i) ∈ csOps ∧ w.extractLsb' 0 12 = 0 := by
      intro j h hj
      unfold decodeCs at h
      split at h <;> cases h
      exact ⟨hj, ‹_›⟩
    unfold decode at h
    split at h
    case h_1 hop => exact .inl (hcs _ h (by rw [hop]; decide))
    case h_2 hop =>
      split at h <;> cases h
      exact .inr (.inl ⟨hop, ‹_›, rfl⟩)
    case h_3 hop => exact .inl (hcs _ h (by rw [hop]; decide))
    case h_4 hop => exact .inl (hcs _ h (by rw [hop]; decide))
    case h_5 hop => exact .inl (hcs _ h (by rw [hop]; decide))
    case h_6 hop => exact .inr (.inr ⟨.enc, hop, h⟩)
    case h_7 hop => exact .inr (.inr ⟨.dec, hop, h⟩)
    case h_8 hop => exact .inr (.inr ⟨.rd, hop, h⟩)
    case h_9 hop => exact .inr (.inr ⟨.wr, hop, h⟩)
    case h_10 hop => exact .inr (.inr ⟨.wrv, hop, h⟩)
    case h_11 hop => exact .inr (.inr ⟨.rmw, hop, h⟩)
    case h_12 => cases h
  · rintro (⟨hmem, hz⟩ | ⟨hop, hz, rfl⟩ | ⟨op, hop, h⟩)
    · simp only [csOps, List.mem_cons, List.not_mem_nil, or_false, Prod.mk.injEq] at hmem
      rcases hmem with ⟨hop, rfl⟩ | ⟨hop, rfl⟩ | ⟨hop, rfl⟩ | ⟨hop, rfl⟩ <;>
        simp only [decode, hop, decodeCs, if_pos hz]
    · simp only [decode, hop, if_pos hz]
    · cases op <;> simpa only [decode, hop, opCode] using h

/-- The words of the `CS` requests without an immediate (rules R83, R120 to R125). -/
theorem encode_csOps : ∀ e ∈ csOps, encode e.2 = mkWord e.1 false 0 0 := by decide

/-- The flag, the channel and the reserved bit of a word whose bits 11 to 8 are zero. -/
theorem fields_of_bits11to8 {w : ReqWord} (h : w.toNat / 256 % 16 = 0) :
    fieldNv w = false ∧ fieldCh w = 0 ∧ fieldZ w = false := by
  have hnv := fieldNv_toNat w
  have hz := fieldZ_toNat w
  refine ⟨Bool.toNat_eq_zero.mp (by omega), by rw [fieldCh_eq]; omega, Bool.toNat_eq_zero.mp (by omega)⟩

/-- A word that decodes is its instruction's word (rule R89). -/
theorem encode_of_decode {w : ReqWord} {i : Instr} (h : decode w = .ok i) : encode i = w := by
  rcases decode_eq_ok_iff.mp h with ⟨hmem, hlow⟩ | ⟨hop, hbits, rfl⟩ | ⟨op, hop, hcmd⟩
  · rw [low12_eq_zero] at hlow
    obtain ⟨hnv, hch, hz⟩ := fields_of_bits11to8 (w := w) (by omega)
    have hcmd : fieldCmd w = 0 := BitVec.eq_of_toNat_eq ((fieldCmd_toNat w).trans (show _ = 0 by omega))
    exact (encode_csOps _ hmem).trans (mkWord_of_fields rfl hnv hch hcmd hz)
  · obtain ⟨hnv, hch, hz⟩ := fields_of_bits11to8 ((bits11to8_eq_zero w).mp hbits)
    exact mkWord_of_fields hop hnv hch rfl hz
  · exact encode_of_decodeCmd hop hcmd

/-- A word decodes exactly when it is one of the three kinds and its fields pass the checks (rules R83, R140, R180, R222). -/
theorem decode_isOk_iff {w : ReqWord} :
    (∃ i, decode w = .ok i) ↔
      (fieldOp w ∈ csOps.map (·.1) ∧ w.extractLsb' 0 12 = 0) ∨ (fieldOp w = 2 ∧ w.extractLsb' 8 4 = 0) ∨
      (fieldZ w = false ∧ ∃ row ∈ cmdtab, row.code = fieldCmd w ∧ fieldCh w < row.chans ∧
        ∃ op, fieldOp w = opCode op ∧ RowTakes op (fieldNv w) row) := by
  constructor
  · rintro ⟨i, h⟩
    rcases decode_eq_ok_iff.mp h with ⟨hmem, hlow⟩ | ⟨hop, hbits, -⟩ | ⟨op, hop, hcmd⟩
    · exact .inl ⟨List.mem_map_of_mem hmem, hlow⟩
    · exact .inr (.inl ⟨hop, hbits⟩)
    · obtain ⟨hz, row, hrow, hcode, hlt, htakes⟩ := decodeCmd_isOk_iff.mp ⟨i, hcmd⟩
      exact .inr (.inr ⟨hz, row, hrow, hcode, hlt, op, hop, htakes⟩)
  · rintro (⟨hmem, hlow⟩ | ⟨hop, hbits⟩ | ⟨hz, row, hrow, hcode, hlt, op, hop, htakes⟩)
    · obtain ⟨⟨op, i⟩, hmem, rfl⟩ := List.mem_map.mp hmem
      exact ⟨i, decode_eq_ok_iff.mpr (.inl ⟨hmem, hlow⟩)⟩
    · exact ⟨_, decode_eq_ok_iff.mpr (.inr (.inl ⟨hop, hbits, rfl⟩))⟩
    · obtain ⟨i, hcmd⟩ := decodeCmd_isOk_iff.mpr ⟨hz, row, hrow, hcode, hlt, htakes⟩
      exact ⟨i, decode_eq_ok_iff.mpr (.inr (.inr ⟨op, hop, hcmd⟩))⟩

/-! ## The served words -/

theorem extractOp_eq_iff (w : ReqWord) (o : BitVec 4) : w.extractLsb' 12 4 = o ↔ fieldOp w = o.toNat := BitVec.toNat_inj.symm

theorem extractOp_mem_csOps (w : ReqWord) :
    w.extractLsb' 12 4 ∈ [1#4, 3#4, 4#4, 5#4] ↔ fieldOp w ∈ csOps.map (·.1) := by
  simp [extractOp_eq_iff, csOps]

/-- What a row must have for each operation, as rules R140, R180 and R222 d and e list it. -/
theorem exists_op_rowTakes_iff (n : Nat) (nv : Bool) (row : CmdRow) :
    (∃ op, n = opCode op ∧ RowTakes op nv row) ↔
      (n = 6 ∧ (nv = true → row.nv = true)) ∨
      (n = 7 ∧ row.rlen ≠ none ∧ nv = false) ∨
      (n = 8 ∧ row.rlen ≠ none ∧ nv = false) ∨
      (n = 9 ∧ row.wlen ≠ none ∧ (nv = true → row.nv = true)) ∨
      (n = 10 ∧ row.wlen ≠ none ∧ row.verify ≠ none ∧ (nv = true → row.nv = true)) ∨
      (n = 11 ∧ row.wlen ≠ none ∧ row.rlen = row.wlen ∧ row.verify ≠ none ∧ (nv = true → row.nv = true)) := by
  have hsplit : ∀ p : CmdOp → Prop, (∃ op, p op) ↔ p .enc ∨ p .dec ∨ p .rd ∨ p .wr ∨ p .wrv ∨ p .rmw := by
    intro p
    constructor
    · rintro ⟨op, h⟩
      cases op <;> simp [h]
    · rintro (h | h | h | h | h | h) <;> exact ⟨_, h⟩
  simp only [hsplit, opCode, RowTakes, serves, takesNv, Bool.and_eq_true, beq_iff_eq, Option.isSome_iff_ne_none,
    Bool.false_eq_true, imp_false, Bool.not_eq_true, true_and, and_assoc]

end Sys2Proof

namespace Sys2Proof.Claims
open Sys2Proof Sys2Proof.Machine Host

/-- Settles O1: every instruction is the meaning of its own word, and so is every well-formed one. -/
theorem decodeEncodeRoundTrip : Obligations.DecodeEncodeRoundTrip := fun i _ => decode_encode i

/-- Settles O2: the fields of a word that decodes are those its instruction's word is made of. -/
theorem encodeDecodeRoundTrip : Obligations.EncodeDecodeRoundTrip := fun _ _ => encode_of_decode

/-- Settles O3: the decoder's checks of the fields, kind by kind and operation by operation, are those of the rules. -/
theorem decodedWordsAreTheServedOnes : Obligations.DecodedWordsAreTheServedOnes := by
  intro w
  rw [decode_isOk_iff]
  simp only [exists_op_rowTakes_iff, Served, extractOp_mem_csOps, extractOp_eq_iff]
  exact Iff.rfl

end Sys2Proof.Claims
end

section
/-! The step that accepts a request (rules R80, R83, R220): its word's instruction runs, or the word is refused. -/

namespace Sys2Proof.Claims
open Sys2Proof Sys2Proof.Machine Host

section
variable {s : State} {r : Request} {rest : List Request}

/-- Without a reset or a configuration write, `IDLE` accepts the word of the request at the port (rule R220). -/
theorem step_accepts (hq : Quiet s) (hst : s.st = .idle) (hreqs : s.reqs = r :: rest) :
    step s = acceptWord r.word (atPort r rest s) := by
  obtain ⟨hrst, hcfg⟩ := hq
  rw [step_of_request hrst hcfg hst hreqs, acceptWord_eq]

theorem acceptWord_of_ok {w : ReqWord} {i : Instr} (h : decode w = .ok i) (s : State) : acceptWord w s = exec i s := by
  simp only [acceptWord, h]

theorem acceptWord_of_error {w : ReqWord} {e : Reject} (h : decode w = .error e) (s : State) :
    acceptWord w s = .next (refuseWord w s) := by
  simp only [acceptWord, h]

end

/-- Settles O5: the step accepts the word, and its instruction runs. -/
theorem stepRunsDecodedInstruction : Obligations.StepRunsDecodedInstruction := by
  intro s r rest i hq hst hreqs hdec
  rw [step_accepts hq hst hreqs, acceptWord_of_ok hdec]

/-- Settles O6: the step accepts the word, and it is refused. -/
theorem undecodedWordAnswersBadArgument : Obligations.UndecodedWordAnswersBadArgument := by
  intro s r rest e hq hst hreqs hdec
  rw [step_accepts hq hst hreqs, acceptWord_of_error hdec, refuseWord, isXferWord]
  simp only [decide_eq_true_eq]
  rfl

end Sys2Proof.Claims
end

section
/-! `ENC` of a command whose layout has one group (rules R93, R140, R142, R262 g): the operands are that group's entry alone,
or the request is refused. -/

namespace Sys2Proof.Machine
open Sys2Proof.Claims Host

/-! ## The answer of `ENC` -/

/-- `ENC` of operands that convert answers their frame, with the flag `nv` (rules R88, R140). -/
theorem encRequest_of_converts {P : Params} {cmd : Byte} {ch wlen : Nat} {nv : Bool} {s : State} {row : CmdRow}
    {fs : List Field} (hrow : lookupRow P.cmdtab cmd ch = some row) (hw : row.wlen = some wlen)
    (hnv : (nv && !row.nv) = false) (hc : collect P row.layout s.opArgs true = .ok fs) :
    encRequest P cmd ch nv s = answered (.frame (appendCk (insNv row nv (fs.foldl insField (zeros wlen))))) none s := by
  simp only [encRequest, hrow, hw, hnv, encFrame, pack, hc]
  rfl

/-- `ENC` of operands that do not convert answers their error, and writes nothing else (rules R140, R271). -/
theorem encRequest_of_refuses {P : Params} {cmd : Byte} {ch wlen : Nat} {nv : Bool} {s : State} {row : CmdRow}
    {k : ErrorKind} (hrow : lookupRow P.cmdtab cmd ch = some row) (hw : row.wlen = some wlen)
    (hnv : (nv && !row.nv) = false) (hc : collect P row.layout s.opArgs true = .error k) :
    encRequest P cmd ch nv s = refusedHere k s := by
  simp only [encRequest, hrow, hw, hnv, encFrame, pack, hc]
  rfl

/-- Operands that convert, with every group required, name the first group once, and the rest convert (rule R143). -/
theorem convertGroups_cons_inv {P : Params} {l : Layout} {args : Args} {g : Group} {gs : List Group} {fs : List Field}
    (h : convertGroups P l args true (g :: gs) = .ok fs) :
    ∃ o fs₁ rest, args.filter (fun e => e.1 == g) = [(g, o)] ∧ convert P l g o = .ok fs₁ ∧
      convertGroups P l args true gs = .ok rest ∧ fs = fs₁ ++ rest := by
  unfold convertGroups at h
  split at h
  · cases h
  · rename_i g' o hfilter
    have hmem : (g', o) ∈ args.filter (fun e => e.1 == g) := by rw [hfilter]; exact List.mem_singleton.mpr rfl
    obtain rfl : g' = g := by simpa using (List.mem_filter.mp hmem).2
    split at h
    · cases h
    rename_i fs₁ hc
    split at h <;> cases h
    exact ⟨o, fs₁, _, hfilter, hc, ‹_›, rfl⟩
  · cases h

/-! ## The operands of a layout with one group -/

section
variable {P : Params} {l : Layout} {g : Group} {args : Args}

/-- Operands that name no group but the layout's one. -/
theorem hasUnknown_single (hl : layoutGroups l = [g]) : hasUnknown l args = false ↔ ∀ e ∈ args, e.1 = g := by
  simp [hasUnknown, hl]

theorem collect_single_known (hl : layoutGroups l = [g]) (hall : ∀ e ∈ args, e.1 = g) :
    collect P l args true = convertGroups P l args true [g] := by
  have hfill : l ≠ .lPairs := by rintro rfl; cases hl
  rw [collect_known true ((hasUnknown_single hl).mpr hall), if_pos rfl, fillSlots_of_ne_pairs _ hfill, hl]

/-- The group's own entry is all that is converted. -/
theorem collect_single_ok {o : Operand} {fs : List Field} (hl : layoutGroups l = [g]) (hc : convert P l g o = .ok fs) :
    collect P l [(g, o)] true = .ok fs := by
  rw [collect_single_known hl (by simp)]
  simpa using convertGroups_cons_ok (args := [(g, o)]) (gs := []) (all := true) (by simp) hc rfl

/-- Operands that convert are the group's own entry (rule R93). -/
theorem collect_single_inv {fs : List Field} (hl : layoutGroups l = [g]) (h : collect P l args true = .ok fs) :
    ∃ o, args = [(g, o)] ∧ convert P l g o = .ok fs := by
  have hall := (hasUnknown_single hl).mp (collect_ok h).1
  rw [collect_single_known hl hall] at h
  obtain ⟨o, fs₁, rest, hfilter, hc, hrest, rfl⟩ := convertGroups_cons_inv h
  cases hrest
  rw [List.filter_eq_self.mpr (by simpa using hall)] at hfilter
  exact ⟨o, hfilter, by rw [hc, List.append_nil]⟩

/-- A group whose operands are all refused with its own error is refused with that error (rules R93, R143). -/
theorem convertGroups_single_error {k : ErrorKind} (herr : ∀ o k, convert P l g o = .error k → k = groupErr l g)
    (h : convertGroups P l args true [g] = .error k) : k = groupErr l g := by
  obtain ⟨pre, g', post, -, hsplit, -, hk⟩ := convertGroups_error h
  have hg : g' ∈ [g] := hsplit ▸ List.mem_append_right pre List.mem_cons_self
  obtain rfl := List.mem_singleton.mp hg
  rcases hk with ⟨o, -, hc⟩ | hk
  · exact herr o k hc
  · exact hk

/-- Operands that do not convert are refused with the group's error or, beside an unknown group, with `BadArgument`; which
one comes first then is free (rules R93, R143, R262 g; log entry 7). -/
theorem collect_single_error {k : ErrorKind} (hl : layoutGroups l = [g])
    (herr : ∀ o k, convert P l g o = .error k → k = groupErr l g) (h : collect P l args true = .error k) :
    k = groupErr l g ∨ (k = .badArgument ∧ ∃ e ∈ args, e.1 ≠ g) := by
  by_cases hall : ∀ e ∈ args, e.1 = g
  · rw [collect_single_known hl hall] at h
    exact .inl (convertGroups_single_error herr h)
  · have hother : ∃ e ∈ args, e.1 ≠ g := by simpa using hall
    unfold collect at h
    split at h
    · split at h
      · cases h
        exact .inr ⟨rfl, hother⟩
      · split at h <;> cases h
        · rename_i hk
          rw [hl] at hk
          exact .inl (convertGroups_single_error herr hk)
        · exact .inr ⟨rfl, hother⟩
    · rename_i hknown
      exact absurd ((hasUnknown_single hl).mp (by simpa using hknown)) hall

/-- Operands that are not the group's own entry, or whose entry does not convert, are refused. -/
theorem collect_single_refused (hl : layoutGroups l = [g]) (herr : ∀ o k, convert P l g o = .error k → k = groupErr l g)
    (hno : ∀ o fs, convert P l g o = .ok fs → args ≠ [(g, o)]) :
    ∃ k, collect P l args true = .error k ∧ (k = groupErr l g ∨ (k = .badArgument ∧ ∃ e ∈ args, e.1 ≠ g)) := by
  cases hc : collect P l args true with
  | error k => exact ⟨k, rfl, collect_single_error hl herr hc⟩
  | ok fs =>
    obtain ⟨o, hargs, ho⟩ := collect_single_inv hl hc
    exact absurd hargs (hno o fs ho)

end

/-! ## The fields of a flag, a number and a duty (rules R86, R99) -/

theorem flagField_error {pos : Nat} {e k : ErrorKind} {o : Operand} (h : flagField pos e o = .error k) : k = e := by
  unfold flagField at h
  split at h <;> cases h
  rfl

theorem flagField_inv {pos : Nat} {e : ErrorKind} {o : Operand} {fs : List Field} (h : flagField pos e o = .ok fs) :
    ∃ b, o = .bool b := by
  unfold flagField at h
  split at h <;> cases h
  exact ⟨_, rfl⟩

theorem uintField_error_kind {pos w : Nat} {lo hi base : Int} {e k : ErrorKind} {o : Operand}
    (h : uintField pos w lo hi base e o = .error k) : k = e := by
  unfold uintField at h
  split at h
  · split at h <;> cases h
    rfl
  · cases h
    rfl

/-- A number in a range of naturals from 0 is its own field (rules R86, R141). -/
theorem uintField_of_le {pos w hi v : Nat} (e : ErrorKind) (hv : v ≤ hi) :
    uintField pos w 0 hi 0 e (.int v) = .ok [⟨pos, w, v⟩] := by
  have hrange : (0 : Int) ≤ v ∧ (v : Int) ≤ hi := by omega
  exact (if_pos hrange).trans (by simp)

theorem uintField_inv {pos w hi : Nat} {base : Int} {e : ErrorKind} {o : Operand} {fs : List Field}
    (h : uintField pos w 0 hi base e o = .ok fs) : ∃ v : Nat, v ≤ hi ∧ o = .int v := by
  unfold uintField at h
  split at h
  · rename_i v
    split at h <;> cases h
    exact ⟨v.toNat, by omega, congrArg Operand.int (by omega)⟩
  · cases h

theorem dutyField_error {pos : Nat} {k : ErrorKind} {o : Operand} (h : dutyField pos o = .error k) :
    k = .invalidDutyCycle := by
  unfold dutyField at h
  split at h
  · split at h <;> cases h
    rfl
  · cases h
    rfl

theorem dutyField_of_le {pos v : Nat} (hv : v ≤ 100) : dutyField pos (.int v) = .ok [⟨pos, 10, dutyRaw v⟩] := by
  have hrange : (0 : Int) ≤ v ∧ (v : Int) ≤ 100 := by omega
  exact (if_pos hrange).trans (by simp)

theorem dutyField_inv {pos : Nat} {o : Operand} {fs : List Field} (h : dutyField pos o = .ok fs) :
    ∃ v : Nat, v ≤ 100 ∧ o = .int v := by
  unfold dutyField at h
  split at h
  · rename_i v
    split at h <;> cases h
    exact ⟨v.toNat, by omega, congrArg Operand.int (by omega)⟩
  · cases h

/-! ## Payloads of whole bytes -/

/-- A row without the flag has no bit for it (rule R88). -/
theorem insNv_of_no_flag {row : CmdRow} (nv : Bool) (p : Bytes) (h : row.nv = false) : insNv row nv p = p := by
  simp [insNv, h]

theorem foldl_insField_singleton (p : Bytes) (f : Field) : [f].foldl insField p = insBits p f.pos f.w f.v := rfl

/-- A field that is a whole byte replaces that byte (rule R9). -/
theorem insBits_byte {p : Bytes} {k : Nat} (v : Nat) (hk : k < p.length) :
    insBits p (8 * k) 8 v = p.set k (byte v) := by
  apply payload_ext _ _ (by simp)
  intro c _
  rw [payloadBit_insBits p _ _ _ _ (by omega)]
  by_cases hc : c / 8 = k
  · subst hc
    have hbit : c - 8 * (c / 8) = c % 8 := by omega
    have hlt : c % 8 < 8 := by omega
    rw [if_pos (by omega), hbit]
    simp [payloadBit, hk, byte, BitVec.getLsbD_ofNat, -BitVec.getLsbD_eq_getElem, hlt]
  · rw [if_neg (by omega)]
    simp [payloadBit, Ne.symm hc]

/-- A ten-bit field at the start of two zero bytes is its low byte and its two high bits (rules R9, R99). -/
theorem insBits_ten {v : Nat} (hv : v < 1024) : insBits (zeros 2) 0 10 v = [byte (v % 256), byte (v / 256)] := by
  have hread : extBits (insBits (zeros 2) 0 10 v) 0 10 = v := extBits_insBits_same _ 0 10 v (by simp) hv
  have hunused : extBits (insBits (zeros 2) 0 10 v) 10 6 = 0 :=
    (extBits_insBits_disjoint _ 0 10 v 10 6 (by simp) (by decide)).trans (extBits_zeros ..)
  have hlen : (insBits (zeros 2) 0 10 v).length = 2 := by simp
  generalize insBits (zeros 2) 0 10 v = p at *
  have low : extBits p 0 10 = extBits p 0 8 + extBits p 8 2 * 256 := extBits_add p 0 8 2
  have high : extBits p 8 8 = extBits p 8 2 + extBits p 10 6 * 4 := extBits_add p 8 2 6
  have low_lt : extBits p 0 8 < 256 := extBits_lt p 0 8
  rw [payload_eq_map_extBits p, hlen]
  change [byte (extBits p 0 8), byte (extBits p 8 8)] = _
  congr <;> omega

end Sys2Proof.Machine

namespace Sys2Proof.Claims
open Sys2Proof Sys2Proof.Machine Host

/-- Settles O16: only the one group's Boolean converts, to bit 0 of the control byte, and the flag is bit 7. -/
theorem encChargingConfigFrame : Obligations.EncChargingConfigFrame := by
  intro s nv
  have hnv : (nv && !rowChargingConfig.nv) = false := Bool.and_false nv
  refine ⟨fun b hargs => ?_, fun hno => ?_⟩
  · have hframe := encRequest_of_converts (P := defaults) (cmd := 0x51) (ch := 0) (s := s) rfl rfl hnv
      (hargs ▸ collect_single_ok (g := .enable) (o := .bool b) rfl rfl)
    refine congrArg Outcome.next (hframe.trans ?_)
    cases nv <;> cases b <;> rfl
  · obtain ⟨k, hc, hk⟩ := collect_single_refused (P := defaults) (l := .lCtrl) (g := .enable) (args := s.opArgs) rfl
      (fun _ _ => flagField_error) fun o fs ho => by
        obtain ⟨b, rfl⟩ := flagField_inv ho
        exact hno b
    obtain rfl : k = .badArgument := hk.elim id And.left
    exact congrArg Outcome.next (encRequest_of_refuses (P := defaults) (cmd := 0x51) (ch := 0) rfl rfl hnv hc)

/-- The frame and the refusal of `ENC POWER_OFF` (rule R146). -/
theorem encPowerOff_frame (s : State) :
    (∀ v : Nat, v ≤ 255 → s.opArgs = [(.delay, .int v)] →
      exec .encPowerOff s = .next (answered (.frame [byte v, 0xFF ^^^ byte v]) none s)) ∧
    ((∀ v : Nat, v ≤ 255 → s.opArgs ≠ [(.delay, .int v)]) →
      exec .encPowerOff s = .next (refusedHere .badArgument s)) := by
  refine ⟨fun v hv hargs => ?_, fun hno => ?_⟩
  · have hconv : convert defaults .lU8 .delay (.int v) = .ok [⟨0, 8, v⟩] := uintField_of_le .badArgument hv
    have hframe := encRequest_of_converts (P := defaults) (cmd := 0x62) (ch := 0) (nv := false) (s := s) rfl rfl rfl
      (hargs ▸ collect_single_ok rfl hconv)
    have hbyte : insBits (zeros 1) 0 8 v = [byte v] := insBits_byte (p := zeros 1) (k := 0) v (by decide)
    rw [insNv_of_no_flag false _ rfl, foldl_insField_singleton, hbyte] at hframe
    exact congrArg Outcome.next hframe
  · obtain ⟨k, hc, hk⟩ := collect_single_refused (P := defaults) (l := .lU8) (g := .delay) (args := s.opArgs) rfl
      (fun _ _ => uintField_error_kind) fun o fs ho => by
        obtain ⟨v, hv, rfl⟩ := uintField_inv ho
        exact hno v hv
    obtain rfl : k = .badArgument := hk.elim id And.left
    exact congrArg Outcome.next (encRequest_of_refuses (P := defaults) (cmd := 0x62) (ch := 0) (nv := false) rfl rfl rfl hc)

/-- The channels of `ENC PWM_DUTY` are one request but for their command code (rules R92, R147). -/
theorem exec_encPwmDuty : ∀ i ∈ [Instr.encPwmDuty1, Instr.encPwmDuty2],
    ∃ ch, lookupRow defaults.cmdtab 0x75 ch = some rowPwmDuty ∧
      ∀ s, exec i s = .next (encRequest defaults 0x75 ch false s) := by
  simp only [List.forall_mem_cons, List.not_mem_nil, false_imp_iff, implies_true, and_true]
  exact ⟨⟨0, rfl, fun _ => rfl⟩, ⟨1, rfl, fun _ => rfl⟩⟩

/-- Settles O17: only the one group's number in range converts, to the byte or the ten bits it is packed in; a duty is refused
with its own kind, or with `BadArgument` beside another group. -/
theorem encPowerOffAndDutyFrames : Obligations.EncPowerOffAndDutyFrames := by
  intro s
  obtain ⟨hframe, hrefused⟩ := encPowerOff_frame s
  refine ⟨hframe, hrefused, fun i hi => ?_⟩
  obtain ⟨ch, hrow, hexec⟩ := exec_encPwmDuty i hi
  have hrefuse : (∀ v : Nat, v ≤ 100 → s.opArgs ≠ [(.duty, .int v)]) →
      ∃ k, exec i s = .next (refusedHere k s) ∧
        (k = .invalidDutyCycle ∨ (k = .badArgument ∧ ∃ e ∈ s.opArgs, e.1 ≠ .duty)) := by
    intro hno
    obtain ⟨k, hc, hk⟩ := collect_single_refused (P := defaults) (l := .lDuty) (g := .duty) (args := s.opArgs) rfl
      (fun _ _ => dutyField_error) fun o fs ho => by
        obtain ⟨v, hv, rfl⟩ := dutyField_inv ho
        exact hno v hv
    exact ⟨k, by rw [hexec, encRequest_of_refuses hrow rfl rfl hc], hk⟩
  refine ⟨fun v hv hargs => ?_, fun hno hall => ?_, fun hother => ?_⟩
  · have hconv : convert defaults .lDuty .duty (.int v) = .ok [⟨0, 10, dutyRaw v⟩] := dutyField_of_le hv
    have hlt : dutyRaw v < 1024 := by unfold dutyRaw; omega
    have hframe := encRequest_of_converts (nv := false) (s := s) hrow rfl rfl (hargs ▸ collect_single_ok rfl hconv)
    rw [insNv_of_no_flag false _ rfl, foldl_insField_singleton, insBits_ten hlt] at hframe
    rw [hexec, hframe]
    rfl
  · obtain ⟨k, hk, rfl | ⟨-, e, he, hne⟩⟩ := hrefuse hno
    · exact hk
    · exact absurd (hall e he) hne
  · obtain ⟨k, hk, hkind⟩ := hrefuse fun v _ hargs => by
      obtain ⟨e, he, hne⟩ := hother
      rw [hargs, List.mem_singleton] at he
      exact hne (he ▸ rfl)
    exact ⟨k, hkind.symm.imp And.left id, hk⟩

end Sys2Proof.Claims
end

section
/-! The selections that a mask stands for (rule R106): a mask and its set positions determine each other, so a mask is
recognised as exactly the selection whose mask it is. -/

namespace Sys2Proof
open Sys2Proof.Machine

/-! ## The positions of a mask -/

theorem mem_maskPositions {n m i : Nat} : i ∈ maskPositions n m ↔ i < n ∧ m.testBit i = true := by
  simp [maskPositions]

theorem maskPositions_pairwise (n m : Nat) : (maskPositions n m).Pairwise (· < ·) :=
  List.pairwise_lt_range.filter _

/-- The positions are the rising list of the set bits. -/
theorem maskPositions_eq {n m : Nat} {l : List Nat} (hl : l.Pairwise (· < ·))
    (h : ∀ i, i ∈ l ↔ i < n ∧ m.testBit i = true) : maskPositions n m = l :=
  (maskPositions_pairwise n m).eq_of_mem_iff hl fun i => mem_maskPositions.trans (h i).symm

/-- A mask of `n` bits is determined by its positions. -/
theorem maskPositions_inj {n m m' : Nat} (hm : m < 2 ^ n) (hm' : m' < 2 ^ n)
    (h : maskPositions n m = maskPositions n m') : m = m' := by
  apply Nat.eq_of_testBit_eq
  intro i
  by_cases hi : i < n
  · have hmem : i ∈ maskPositions n m ↔ i ∈ maskPositions n m' := by rw [h]
    simpa [mem_maskPositions, hi] using hmem
  · have hle : 2 ^ n ≤ 2 ^ i := Nat.pow_le_pow_right (by decide) (by omega)
    rw [Nat.testBit_lt_two_pow (Nat.lt_of_lt_of_le hm hle), Nat.testBit_lt_two_pow (Nat.lt_of_lt_of_le hm' hle)]

/-- The positions of a selection, in rising order. -/
def Selection.positions (n : Nat) : Selection → List Nat
  | .one i => [i]
  | .pair i j => [i, j]
  | .all => List.range n

/-- A selection of positions below `n`, a pair with its lower member first (rule R106). -/
def Selection.Proper (n : Nat) : Selection → Prop
  | .one i => i < n
  | .pair i j => i < j ∧ j < n
  | .all => True

theorem selectionMask_lt {n : Nat} {sel : Selection} (h : sel.Proper n) : selectionMask n sel < 2 ^ n := by
  cases sel with
  | one i => exact Nat.pow_lt_pow_right (by decide) h
  | pair i j =>
    obtain ⟨hij, hj⟩ := h
    exact Nat.or_lt_two_pow (Nat.pow_lt_pow_right (by decide) (by omega)) (Nat.pow_lt_pow_right (by decide) hj)
  | all => exact Nat.sub_lt (Nat.two_pow_pos n) (by decide)

theorem maskPositions_selectionMask {n : Nat} {sel : Selection} (h : sel.Proper n) :
    maskPositions n (selectionMask n sel) = sel.positions n := by
  cases sel with
  | one i =>
    refine maskPositions_eq (List.pairwise_singleton _ _) fun k => ?_
    have hi : i < n := h
    simp only [Selection.positions, selectionMask, List.mem_singleton, Nat.testBit_two_pow, decide_eq_true_eq]
    omega
  | pair i j =>
    obtain ⟨hij, hj⟩ := h
    refine maskPositions_eq (by simpa [Selection.positions] using hij) fun k => ?_
    simp only [Selection.positions, selectionMask, List.mem_cons, List.not_mem_nil, or_false, Nat.testBit_or,
      Nat.testBit_two_pow, Bool.or_eq_true, decide_eq_true_eq]
    omega
  | all =>
    refine maskPositions_eq List.pairwise_lt_range fun k => ?_
    simp [Selection.positions, selectionMask, Nat.testBit_two_pow_sub_one]

/-- A selection is recognised from its mask (three positions or more keep the counts one and two apart from all). -/
theorem unpackMask_selectionMask {n : Nat} (hn : 3 ≤ n) {sel : Selection} (h : sel.Proper n) :
    unpackMask n (selectionMask n sel) = some sel := by
  rw [unpackMask, maskPositions_selectionMask h]
  cases sel with
  | one i => rw [if_neg (by simp [Selection.positions]; omega)]; rfl
  | pair i j => rw [if_neg (by simp [Selection.positions]; omega)]; rfl
  | all => exact if_pos (List.length_range)

/-- The positions of a mask that is recognised are those of the selection. -/
theorem maskPositions_of_unpackMask {n m : Nat} {sel : Selection} (h : unpackMask n m = some sel) :
    maskPositions n m = sel.positions n ∧ sel.Proper n := by
  unfold unpackMask at h
  split at h
  · rename_i hlen
    cases h
    refine ⟨List.filter_eq_self.mpr (List.length_filter_eq_length_iff.mp (hlen.trans List.length_range.symm)), trivial⟩
  · have hsorted := maskPositions_pairwise n m
    have hmem : ∀ k ∈ maskPositions n m, k < n := fun k hk => (mem_maskPositions.mp hk).1
    split at h <;> cases h
    · rename_i i hpos
      exact ⟨hpos, hmem i (hpos ▸ List.mem_cons_self)⟩
    · rename_i i j hpos
      rw [hpos] at hsorted hmem
      exact ⟨hpos, by simpa using hsorted, hmem j (by simp)⟩

/-- A mask is recognised as a selection exactly when it is that selection's mask (rule R106). -/
theorem unpackMask_eq_some_iff {n m : Nat} (hn : 3 ≤ n) (hm : m < 2 ^ n) {sel : Selection} :
    unpackMask n m = some sel ↔ sel.Proper n ∧ m = selectionMask n sel := by
  constructor
  · intro h
    obtain ⟨hpos, hproper⟩ := maskPositions_of_unpackMask h
    exact ⟨hproper, maskPositions_inj hm (selectionMask_lt hproper) (hpos.trans (maskPositions_selectionMask hproper).symm)⟩
  · rintro ⟨hproper, rfl⟩
    exact unpackMask_selectionMask hn hproper

end Sys2Proof
end

section
/-! `DEC RTC_ALARM` (rules R101, R106, R193): each field of the payload is recognised exactly when an operand stands for it. -/

namespace Sys2Proof.Machine
open Sys2Proof.Claims Host

/-! ## The answer of `DEC` -/

/-- `DEC` of a frame of the right length with a good checksum answers what the payload unpacks to, or the row's `unk`
(rules R180, R182). -/
theorem decRequest_of_frame {P : Params} {cmd : Byte} {ch : Nat} {s : State} {row : CmdRow} {p : Bytes}
    (hrow : lookupRow P.cmdtab cmd ch = some row) (hlen : row.rlen = some p.length) (hbytes : s.opBytes = appendCk p) :
    decRequest P cmd ch s = (unpack P row.layout p).elim (refusedHere row.unk s)
      (fun r => answered (.record r) (decodeNv row p) s) := by
  have hpay : pay (appendCk p) p.length = p := List.take_left
  simp only [decRequest, hrow, hlen, hbytes, appendCk_length, ne_eq, not_true_eq_false, if_false, verifyFrame_appendCk,
    if_true, hpay, decodePayload]
  cases unpack P row.layout p <;> rfl

/-! ## The groups of an alarm -/

theorem unpackAlarm_eq_some_iff {P : Params} {p : Bytes} {r : Args} :
    unpackAlarm P p = some r ↔
      extBits p 0 6 ≤ 59 ∧ ∃ minute hour day,
        unpackAlarmMinute P (extBits p 8 6) (payloadBit p 49) = some minute ∧
        unpackAlarmHour (extBits p 16 24) (payloadBit p 50) = some hour ∧
        unpackAlarmDay (extBits p 40 7) (payloadBit p 48) = some day ∧
        r = [(.second, .int (extBits p 0 6)), (.minute, minute), (.hour, hour), (.day, day)] := by
  constructor
  · intro h
    unfold unpackAlarm at h
    split at h
    · rename_i hsecond
      split at h <;> cases h
      exact ⟨hsecond, _, _, _, ‹_›, ‹_›, ‹_›, rfl⟩
    · cases h
  · rintro ⟨hsecond, minute, hour, day, hminute, hhour, hday, rfl⟩
    simp only [unpackAlarm, if_pos hsecond, hminute, hhour, hday]

/-- The minute group is recognised exactly as the operand that stands for it (rules R101, R193). -/
theorem unpackAlarmMinute_eq_some_iff {b1 : Nat} {periodic : Bool} {o : Operand} :
    unpackAlarmMinute defaults b1 periodic = some o ↔ MinuteForm o b1 periodic.toNat := by
  cases periodic with
  | true =>
    have hbounds : defaults.periodMin < b1 ∧ b1 ≤ defaults.periodMax ↔ 0 < b1 ∧ b1 ≤ 60 := Iff.rfl
    simp [unpackAlarmMinute, MinuteForm, hbounds, and_assoc, eq_comm (a := o)]
  | false => simp [unpackAlarmMinute, MinuteForm, eq_comm (a := o)]

/-- The hour number of an AM/PM operand, shown in that form again (rules R106, R193; log entry 9). -/
theorem hour12Operand_am {h : Nat} (hlo : 1 ≤ h) (hhi : h ≤ 12) : hour12Operand (h % 12) = .hourAm h := by
  unfold hour12Operand
  rcases Nat.lt_or_eq_of_le hhi with hlt | rfl
  · rw [Nat.mod_eq_of_lt hlt, if_neg (by omega), if_pos hlt]
  · rfl

theorem hour12Operand_pm {h : Nat} (hlo : 1 ≤ h) (hhi : h ≤ 12) : hour12Operand (h % 12 + 12) = .hourPm h := by
  unfold hour12Operand
  rcases Nat.lt_or_eq_of_le hhi with hlt | rfl
  · rw [Nat.mod_eq_of_lt hlt, if_neg (by omega), if_neg (by omega), if_neg (by omega), Nat.add_sub_cancel]
  · rfl

/-- An hour number shown in AM/PM form is that of the operand shown. -/
theorem hour12Operand_form {h : Nat} (hh : h < 24) : HourForm (hour12Operand h) (2 ^ h) 1 := by
  unfold hour12Operand
  split_ifs with h0 h1 h2
  · exact .inr (.inl ⟨12, by omega, by omega, rfl, by rw [h0]; rfl, rfl⟩)
  · exact .inr (.inl ⟨h, by omega, by omega, rfl, by rw [Nat.mod_eq_of_lt h1, Nat.one_shiftLeft], rfl⟩)
  · exact .inr (.inr (.inl ⟨12, by omega, by omega, rfl, by rw [h2]; rfl, rfl⟩))
  · have hmod : (h - 12) % 12 + 12 = h := by omega
    exact .inr (.inr (.inl ⟨h - 12, by omega, by omega, rfl, by rw [hmod, Nat.one_shiftLeft], rfl⟩))

theorem hour12Operand_canonical (h : Nat) : canonicalOperand (hour12Operand h) := by
  unfold hour12Operand
  split_ifs <;> trivial

/-- The mask of one position, and of two, as the operand forms write them. -/
theorem unpackMask_one {n i : Nat} (hn : 3 ≤ n) (hi : i < n) : unpackMask n (1 <<< i) = some (.one i) := by
  rw [Nat.one_shiftLeft]
  exact unpackMask_selectionMask (sel := .one i) hn hi

theorem unpackMask_pair {n i j : Nat} (hn : 3 ≤ n) (hij : i < j) (hj : j < n) :
    unpackMask n (1 <<< i ||| 1 <<< j) = some (.pair i j) := by
  rw [Nat.one_shiftLeft, Nat.one_shiftLeft]
  exact unpackMask_selectionMask (sel := .pair i j) hn ⟨hij, hj⟩

theorem unpackMask_all {n : Nat} (hn : 3 ≤ n) : unpackMask n (2 ^ n - 1) = some .all :=
  unpackMask_selectionMask (sel := .all) hn trivial

/-- The hour group is recognised exactly as the canonical operand that stands for it; the flag HOUR12 has no meaning beside
the full mask (rules R101, R106, R193). -/
theorem unpackAlarmHour_eq_some_iff {hm : Nat} (hhm : hm < 2 ^ 24) {flag : Bool} {o : Operand} :
    unpackAlarmHour hm flag = some o ↔
      canonicalOperand o ∧ ∃ hour12, HourForm o hm hour12 ∧ (o = .everyHour ∨ hour12 = flag.toNat) := by
  constructor
  · intro h
    unfold unpackAlarmHour at h
    split at h
    case h_1 hsel =>
      cases h
      obtain ⟨-, rfl⟩ := (unpackMask_eq_some_iff (by decide) hhm).mp hsel
      exact ⟨trivial, 0, .inr (.inr (.inr (.inr ⟨rfl, rfl, rfl⟩))), .inl rfl⟩
    case h_2 i hsel =>
      cases h
      obtain ⟨hi, rfl⟩ := (unpackMask_eq_some_iff (by decide) hhm).mp hsel
      cases flag with
      | true => exact ⟨hour12Operand_canonical i, 1, hour12Operand_form hi, .inr rfl⟩
      | false => exact ⟨trivial, 0, .inl ⟨i, Nat.le_of_lt_succ hi, rfl, (Nat.one_shiftLeft i).symm, rfl⟩, .inr rfl⟩
    case h_3 i j hsel =>
      split at h <;> cases h
      rename_i hflag
      obtain ⟨⟨hij, hj⟩, rfl⟩ := (unpackMask_eq_some_iff (by decide) hhm).mp hsel
      refine ⟨Int.ofNat_lt.mpr hij, 0, .inr (.inr (.inr (.inl ⟨i, j, by omega, by omega, by omega, rfl, ?_, rfl⟩))), ?_⟩
      · rw [Nat.one_shiftLeft, Nat.one_shiftLeft]
        rfl
      · exact .inr (by simp [hflag])
    case h_4 => cases h
  · rintro ⟨hcanon, hour12, hform, hflag⟩
    unfold unpackAlarmHour
    rcases hform with ⟨h, hh, rfl, rfl, rfl⟩ | ⟨h, hlo, hh, rfl, rfl, rfl⟩ | ⟨h, hlo, hh, rfl, rfl, rfl⟩ |
      ⟨a, b, ha, hb, hab, rfl, rfl, rfl⟩ | ⟨rfl, rfl, rfl⟩
    · obtain rfl : flag = false := by simpa [eq_comm] using hflag
      rw [unpackMask_one (by decide) (by omega)]
      rfl
    · obtain rfl : flag = true := by simpa [eq_comm] using hflag
      rw [unpackMask_one (by decide) (by omega)]
      exact congrArg some (hour12Operand_am hlo hh)
    · obtain rfl : flag = true := by simpa [eq_comm] using hflag
      rw [unpackMask_one (by decide) (by omega)]
      exact congrArg some (hour12Operand_pm hlo hh)
    · obtain rfl : flag = false := by simpa [eq_comm] using hflag
      have hlt : (a : Int) < b := hcanon
      rw [unpackMask_pair (by decide) (by omega) (by omega)]
      rfl
    · have hall : unpackMask 24 0xFFFFFF = some .all := unpackMask_all (by decide)
      rw [hall]

/-- The day group is recognised exactly as the canonical operand that stands for it (rules R101, R106, R193). -/
theorem unpackAlarmDay_eq_some_iff {b5 : Nat} (hb5 : b5 < 2 ^ 7) {dom : Bool} {o : Operand} :
    unpackAlarmDay b5 dom = some o ↔ canonicalOperand o ∧ DayForm o b5 dom.toNat := by
  constructor
  · intro h
    unfold unpackAlarmDay at h
    cases dom with
    | true =>
      rw [if_pos rfl] at h
      split at h <;> cases h
      rename_i hrange
      exact ⟨trivial, .inl ⟨b5, hrange.1, hrange.2, rfl, rfl, rfl⟩⟩
    | false =>
      rw [if_neg (by decide)] at h
      split at h <;> cases h
      case h_1 hsel =>
        obtain ⟨-, rfl⟩ := (unpackMask_eq_some_iff (by decide) hb5).mp hsel
        exact ⟨trivial, .inr (.inr (.inr ⟨rfl, rfl, rfl⟩))⟩
      case h_2 i hsel =>
        obtain ⟨hi, rfl⟩ := (unpackMask_eq_some_iff (by decide) hb5).mp hsel
        exact ⟨trivial, .inr (.inl ⟨i + 1, by omega, hi, rfl, (Nat.one_shiftLeft i).symm, rfl⟩)⟩
      case h_3 i j hsel =>
        obtain ⟨⟨hij, hj⟩, rfl⟩ := (unpackMask_eq_some_iff (by decide) hb5).mp hsel
        refine ⟨Int.ofNat_lt.mpr (Nat.succ_lt_succ hij),
          .inr (.inr (.inl ⟨i + 1, j + 1, by omega, by omega, by omega, hj, by omega, rfl, ?_, rfl⟩))⟩
        rw [Nat.one_shiftLeft, Nat.one_shiftLeft]
        rfl
  · rintro ⟨hcanon, ⟨d, hlo, hd, rfl, rfl, hdom⟩ | ⟨d, hlo, hd, rfl, rfl, hdom⟩ |
      ⟨a, b, ha, ha', hb, hb', hab, rfl, rfl, hdom⟩ | ⟨rfl, rfl, hdom⟩⟩
    · obtain rfl : dom = true := Bool.toNat_eq_one.mp hdom
      have hrange := And.intro hlo hd
      exact if_pos hrange
    · obtain rfl : dom = false := Bool.toNat_eq_zero.mp hdom
      obtain ⟨i, rfl⟩ := Nat.exists_eq_add_of_le' hlo
      rw [unpackAlarmDay, if_neg (by decide), Nat.add_sub_cancel, unpackMask_one (by decide) (by omega)]
    · obtain rfl : dom = false := Bool.toNat_eq_zero.mp hdom
      obtain ⟨i, rfl⟩ := Nat.exists_eq_add_of_le' ha
      obtain ⟨j, rfl⟩ := Nat.exists_eq_add_of_le' hb
      have hlt : ((i + 1 : Nat) : Int) < (j + 1 : Nat) := hcanon
      rw [unpackAlarmDay, if_neg (by decide), Nat.add_sub_cancel, Nat.add_sub_cancel,
        unpackMask_pair (by decide) (by omega) (by omega)]
    · obtain rfl : dom = false := Bool.toNat_eq_zero.mp hdom
      have hall : unpackMask 7 0x7F = some .all := unpackMask_all (by decide)
      rw [unpackAlarmDay, if_neg (by decide), hall]

/-! ## The payload of seven bytes -/

/-- The fields of an alarm's payload, read off its bytes (rules R9, R101). -/
theorem alarmFields_of_bytes (b0 b1 b2 b3 b4 b5 b6 : Byte) :
    extBits [b0, b1, b2, b3, b4, b5, b6] 0 6 = b0.toNat % 64 ∧ extBits [b0, b1, b2, b3, b4, b5, b6] 8 6 = b1.toNat % 64 ∧
    extBits [b0, b1, b2, b3, b4, b5, b6] 16 24 = b2.toNat + 256 * b3.toNat + 65536 * b4.toNat ∧
    extBits [b0, b1, b2, b3, b4, b5, b6] 40 7 = b5.toNat % 128 := by
  have hmask : extBits [b0, b1, b2, b3, b4, b5, b6] 16 24 = _ := extBits_add _ 16 8 16
  have hhigh : extBits [b0, b1, b2, b3, b4, b5, b6] 24 16 = _ := extBits_add _ 24 8 8
  have h2 := b2.isLt
  have h3 := b3.isLt
  have h4 := b4.isLt
  rw [hmask, hhigh]
  simp only [extBits_byte _ 0 6 (by decide), extBits_byte _ 8 6 (by decide), extBits_byte _ 16 8 (by decide),
    extBits_byte _ 24 8 (by decide), extBits_byte _ 32 8 (by decide), extBits_byte _ 40 7 (by decide)]
  simp
  omega

/-- An alarm's seven bytes are recognised exactly as the canonical operands that stand for them (rule R193). -/
theorem unpackAlarm_bytes_eq_some_iff {b0 b1 b2 b3 b4 b5 b6 : Byte} {r : Args} :
    unpackAlarm defaults [b0, b1, b2, b3, b4, b5, b6] = some r ↔
      b0.toNat % 64 ≤ 59 ∧ ∃ minute hour day,
        MinuteForm minute (b1.toNat % 64) (b6.getLsbD 1).toNat ∧
        (canonicalOperand hour ∧ ∃ hour12, HourForm hour (b2.toNat + 256 * b3.toNat + 65536 * b4.toNat) hour12 ∧
          (hour = .everyHour ∨ hour12 = (b6.getLsbD 2).toNat)) ∧
        (canonicalOperand day ∧ DayForm day (b5.toNat % 128) (b6.getLsbD 0).toNat) ∧
        r = [(.second, .int (b0.toNat % 64 : Nat)), (.minute, minute), (.hour, hour), (.day, day)] := by
  obtain ⟨hsecond, hminute, hhour, hday⟩ := alarmFields_of_bytes b0 b1 b2 b3 b4 b5 b6
  have hmask : b2.toNat + 256 * b3.toNat + 65536 * b4.toNat < 2 ^ 24 := hhour ▸ extBits_lt _ 16 24
  have hb5 : b5.toNat % 128 < 2 ^ 7 := Nat.mod_lt _ (by decide)
  simp only [unpackAlarm_eq_some_iff, hsecond, hminute, hhour, hday, unpackAlarmMinute_eq_some_iff,
    unpackAlarmHour_eq_some_iff hmask, unpackAlarmDay_eq_some_iff hb5]
  exact Iff.rfl

end Sys2Proof.Machine

namespace Sys2Proof.Claims
open Sys2Proof Sys2Proof.Machine Host

/-- Settles O29: the frame is decoded, and its seven bytes are recognised exactly as the operands that stand for them. -/
theorem decRtcAlarmFields : Obligations.DecRtcAlarmFields := by
  intro s b0 b1 b2 b3 b4 b5 b6 hbytes
  have hdec : exec .decRtcAlarm s = .next ((unpackAlarm defaults [b0, b1, b2, b3, b4, b5, b6]).elim
      (refusedHere .unknownData s) (fun r => answered (.record r) none s)) :=
    congrArg Outcome.next (decRequest_of_frame (row := rowRtcAlarm) rfl rfl hbytes)
  refine ⟨fun minute hour day hour12 hsecond hminute hhour hflag hday hcanonHour hcanonDay => ?_, fun hno => ?_⟩
  · rw [hdec, unpackAlarm_bytes_eq_some_iff.mpr
      ⟨hsecond, minute, hour, day, hminute, ⟨hcanonHour, hour12, hhour, hflag⟩, ⟨hcanonDay, hday⟩, rfl⟩]
    rfl
  · have hnone : unpackAlarm defaults [b0, b1, b2, b3, b4, b5, b6] = none := by
      refine Option.eq_none_iff_forall_ne_some.mpr fun r hr => ?_
      obtain ⟨hsecond, minute, hour, day, hminute, ⟨-, hour12, hhour, hflag⟩, ⟨-, hday⟩, -⟩ :=
        unpackAlarm_bytes_eq_some_iff.mp hr
      rcases hno with hno | hno | hno | hno
      · exact absurd hsecond (Nat.not_le.mpr hno)
      · exact hno minute hminute
      · exact hno hour hour12 hflag hhour
      · exact hno day hday
    rw [hdec, hnone]
    rfl

end Sys2Proof.Claims
end

section
/-! `ENC BUTTON_CONFIG` (rules R102, R104, R148): operands convert exactly when their entries are, in some order, the slots 0,
1, ... of a list of pairs of a known action and a count of its units; the payload is that list, padded to six slots. -/

namespace Sys2Proof.Machine
open Sys2Proof.Claims Host

/-! ## One slot -/

/-- The operand of an action and a count of its units (rules R104, R148). -/
def slotOperand (e : ActionEntry × Byte) : Operand := .action e.1.name ((e.2.toNat * e.1.scale : Nat) : Int)

theorem actionByName_name : ∀ e ∈ actionTable, actionByName actionTable e.name = some e := by decide +kernel

theorem scale_pos : ∀ e ∈ actionTable, 0 < e.scale := by decide +kernel

/-- The fields of a slot: the action's code and the count (rule R104). -/
def slotFields (k : Nat) (e : ActionEntry × Byte) : List Field :=
  [⟨16 * k, 8, e.1.code.toNat⟩, ⟨16 * k + 8, 8, e.2.toNat⟩]

theorem slotField_slotOperand {e : ActionEntry × Byte} (he : e.1 ∈ actionTable) (k : Nat) :
    slotField defaults k (slotOperand e) = .ok (slotFields k e) := by
  have hname : actionByName defaults.actions e.1.name = some e.1 := actionByName_name e.1 he
  have hscale : (e.1.scale : Int) ≠ 0 := by have := scale_pos e.1 he; omega
  have hcount := e.2.isLt
  have hdiv : ((e.2.toNat * e.1.scale : Nat) : Int) / e.1.scale = e.2.toNat := by
    rw [Int.natCast_mul, Int.mul_ediv_cancel _ hscale]
  have hmod : ((e.2.toNat * e.1.scale : Nat) : Int) % e.1.scale = 0 := by
    rw [Int.natCast_mul, Int.mul_emod_left]
  simp only [slotField, slotOperand, hname, hdiv, hmod]
  rw [if_pos ⟨by omega, trivial, by omega⟩]
  rfl

/-- An operand that a slot takes is a known action with a count of its units (rule R148). -/
theorem slotField_inv {k : Nat} {o : Operand} {fs : List Field} (h : slotField defaults k o = .ok fs) :
    ∃ e : ActionEntry × Byte, e.1 ∈ actionTable ∧ o = slotOperand e := by
  unfold slotField at h
  split at h
  · rename_i name param
    split at h
    · cases h
    rename_i e he
    split at h <;> cases h
    rename_i hrange
    obtain ⟨hpos, hmod, hcount⟩ := hrange
    have hname : e.name = name := by simpa using List.find?_some he
    have hquot : 0 ≤ param / (e.scale : Int) := Int.ediv_nonneg hpos (Int.natCast_nonneg _)
    have hbyte : (byte (param / (e.scale : Int)).toNat).toNat = (param / (e.scale : Int)).toNat :=
      Nat.mod_eq_of_lt (by omega)
    refine ⟨(e, byte (param / (e.scale : Int)).toNat), List.mem_of_find?_eq_some he, ?_⟩
    rw [slotOperand, hbyte, hname, Int.natCast_mul, Int.toNat_of_nonneg hquot,
      Int.ediv_mul_cancel (Int.dvd_of_emod_eq_zero hmod)]
  · cases h

theorem slotField_error {P : Params} {i : Nat} {o : Operand} {k : ErrorKind} (h : slotField P i o = .error k) :
    k = .badArgument := by
  unfold slotField at h
  split at h
  · split at h
    · cases h
      rfl
    · split at h <;> cases h
      rfl
  · cases h
    rfl

/-! ## The entries of the slots -/

/-- The entry of slot `k` of a list of pairs, if it has one. -/
def slotEntry (pairs : List (ActionEntry × Byte)) (k : Nat) : Args :=
  (pairs[k]?.map (fun e => (Group.slot k, slotOperand e))).toList

theorem slotEntry_of_lt {pairs : List (ActionEntry × Byte)} {k : Nat} (h : k < pairs.length) :
    slotEntry pairs k = [(.slot k, slotOperand pairs[k])] := by
  simp [slotEntry, h]

theorem slotEntry_of_le {pairs : List (ActionEntry × Byte)} {k : Nat} (h : pairs.length ≤ k) : slotEntry pairs k = [] := by
  simp [slotEntry, h]

theorem filter_slot_zipIdx (pairs : List (ActionEntry × Byte)) (n : Nat) :
    (∀ j < n, ((pairs.zipIdx n).map (fun e => (Group.slot e.2, slotOperand e.1))).filter (fun e => e.1 == .slot j) = []) ∧
    ∀ k, ((pairs.zipIdx n).map (fun e => (Group.slot e.2, slotOperand e.1))).filter (fun e => e.1 == .slot (n + k)) =
      (pairs[k]?.map (fun e => (Group.slot (n + k), slotOperand e))).toList := by
  induction pairs generalizing n with
  | nil => simp
  | cons e pairs ih =>
    obtain ⟨hbelow, hat⟩ := ih (n + 1)
    refine ⟨fun j hj => ?_, fun k => ?_⟩
    · have hne : n ≠ j := by omega
      simpa [hne] using hbelow j (by omega)
    · cases k with
      | zero => simpa using hbelow n (by omega)
      | succ k =>
        have hsum : n + 1 + k = n + (k + 1) := by omega
        simpa [hsum] using hat k

theorem filter_slotArgs (pairs : List (ActionEntry × Byte)) (k : Nat) :
    (slotArgs pairs).filter (fun e => e.1 == .slot k) = slotEntry pairs k := by
  have h := (filter_slot_zipIdx pairs 0).2 k
  simp only [Nat.zero_add] at h
  exact h

theorem slotArgs_slot {pairs : List (ActionEntry × Byte)} {e : Group × Operand} (h : e ∈ slotArgs pairs) :
    ∃ k < pairs.length, e.1 = .slot k := by
  obtain ⟨x, hx, rfl⟩ := List.mem_map.mp h
  exact ⟨x.2, by simpa using List.snd_lt_of_mem_zipIdx hx, rfl⟩

/-- The operands are the slots of a list of pairs, in some order, exactly when each slot's entries are that of the list. -/
theorem perm_slotArgs_iff {args : Args} {pairs : List (ActionEntry × Byte)} :
    args.Perm (slotArgs pairs) ↔
      (∀ e ∈ args, ∃ k, e.1 = .slot k) ∧ ∀ k, args.filter (fun e => e.1 == .slot k) = slotEntry pairs k := by
  constructor
  · intro h
    refine ⟨fun e he => (slotArgs_slot (h.mem_iff.mp he)).imp fun _ => And.right, fun k => ?_⟩
    have hperm := h.filter (fun e => e.1 == .slot k)
    rw [filter_slotArgs] at hperm
    rcases Nat.lt_or_ge k pairs.length with hk | hk
    · rw [slotEntry_of_lt hk] at hperm ⊢
      exact List.perm_singleton.mp hperm
    · rw [slotEntry_of_le hk] at hperm ⊢
      exact hperm.eq_nil
  · rintro ⟨hslot, hfilter⟩
    refine List.perm_iff_count.mpr fun x => ?_
    by_cases hx : ∃ k, x.1 = .slot k
    · obtain ⟨k, hk⟩ := hx
      have hcount : ∀ l : Args, l.count x = (l.filter (fun e => e.1 == .slot k)).count x :=
        fun l => (List.count_filter (by simp [hk])).symm
      rw [hcount args, hcount (slotArgs pairs), hfilter, filter_slotArgs]
    · rw [List.count_eq_zero_of_not_mem fun h => hx (hslot x h), List.count_eq_zero_of_not_mem fun h =>
        hx ((slotArgs_slot h).imp fun _ => And.right)]

/-! ## The slots left out -/

theorem layoutGroups_pairs : layoutGroups .lPairs = (List.range 6).map Group.slot := rfl

/-- The entries that `ENC` adds for the slots `n` to 5 (rules R104, R148). -/
def emptySlots (n : Nat) : Args := (List.range' n (6 - n)).map (fun k => (.slot k, .action .noFunc 0))

/-- The numbers below `m` from the last one down that meet a condition are those from some `n` on. -/
theorem takeWhile_reverse_range {α : Type} (f : Nat → α) (p : α → Bool) (m : Nat) :
    ∃ n ≤ m, (((List.range m).map f).reverse.takeWhile p).reverse = (List.range' n (m - n)).map f ∧
      (∀ k, n ≤ k → k < m → p (f k) = true) ∧ (0 < n → p (f (n - 1)) = false) := by
  induction m with
  | zero => exact ⟨0, Nat.le_refl 0, rfl, fun k _ hk => absurd hk (Nat.not_lt_zero k), fun h => absurd h (Nat.lt_irrefl 0)⟩
  | succ m ih =>
    obtain ⟨n, hn, htake, hall, hlast⟩ := ih
    have hcons : ((List.range (m + 1)).map f).reverse = f m :: ((List.range m).map f).reverse := by
      rw [List.range_succ, List.map_append, List.reverse_append]
      rfl
    cases hp : p (f m) with
    | true =>
      refine ⟨n, by omega, ?_, fun k hlo hk => ?_, hlast⟩
      · have hrange : List.range' n (m + 1 - n) = List.range' n (m - n) ++ [m] := by
          have hsum : n + (m - n) = m := by omega
          rw [Nat.succ_sub hn, List.range'_concat, Nat.one_mul, hsum]
        rw [hcons, List.takeWhile_cons_of_pos hp, List.reverse_cons, htake, hrange, List.map_append]
        rfl
      · rcases Nat.lt_succ_iff_lt_or_eq.mp hk with hk | rfl
        · exact hall k hlo hk
        · exact hp
    | false =>
      refine ⟨m + 1, Nat.le_refl _, ?_, fun k hlo hk => absurd hk (by omega), fun _ => hp⟩
      rw [hcons, List.takeWhile_cons_of_neg (by simp [hp]), Nat.sub_self]
      rfl

/-- The slots after the last one named are added as empty (rules R104, R148). -/
theorem fillSlots_pairs (args : Args) :
    ∃ n ≤ 6, fillSlots .lPairs args = args ++ emptySlots n ∧ (∀ k, n ≤ k → k < 6 → namesGroup args (.slot k) = false) ∧
      (0 < n → namesGroup args (.slot (n - 1)) = true) := by
  obtain ⟨n, hn, htake, hall, hlast⟩ := takeWhile_reverse_range Group.slot (fun g => !namesGroup args g) 6
  refine ⟨n, hn, ?_, by simpa using hall, by simpa using hlast⟩
  rw [fillSlots, layoutGroups_pairs, htake, List.map_map]
  rfl

theorem hasUnknown_pairs {args : Args} : hasUnknown .lPairs args = false ↔ ∀ e ∈ args, ∃ k < 6, e.1 = .slot k := by
  have hgroup : ∀ g : Group, (layoutGroups .lPairs).contains g = true ↔ ∃ k < 6, g = .slot k := by
    intro g
    rw [layoutGroups_pairs, List.contains_iff_mem, List.mem_map]
    exact exists_congr fun k => and_congr List.mem_range eq_comm
  simp only [hasUnknown, List.any_eq_false, Bool.not_eq_true', Bool.not_eq_false, hgroup]

theorem namesGroup_eq_false_iff {args : Args} {g : Group} :
    namesGroup args g = false ↔ args.filter (fun e => e.1 == g) = [] := by
  simp [namesGroup]

/-- The pair of an empty slot (rule R104). -/
def emptyPair : ActionEntry × Byte := (⟨0x00, .noFunc, 1⟩, 0)

/-- A list of pairs with empty slots up to six. -/
def padPairs (pairs : List (ActionEntry × Byte)) : List (ActionEntry × Byte) :=
  pairs ++ List.replicate (6 - pairs.length) emptyPair

theorem padPairs_length {pairs : List (ActionEntry × Byte)} (h : pairs.length ≤ 6) : (padPairs pairs).length = 6 := by
  simp [padPairs]
  omega

theorem padPairs_known {pairs : List (ActionEntry × Byte)} (h : ∀ e ∈ pairs, e.1 ∈ actionTable) :
    ∀ e ∈ padPairs pairs, e.1 ∈ actionTable := by
  intro e he
  rcases List.mem_append.mp he with he | he
  · exact h e he
  · rw [List.eq_of_mem_replicate he]
    decide +kernel

theorem slotArgs_padPairs (pairs : List (ActionEntry × Byte)) :
    slotArgs (padPairs pairs) = slotArgs pairs ++ emptySlots pairs.length := by
  rw [slotArgs, padPairs, List.zipIdx_append, List.map_append]
  refine congrArg (slotArgs pairs ++ ·) (List.ext_getElem (by simp [emptySlots]) fun k hk _ => ?_)
  simp [emptySlots, emptyPair]

/-- Operands that name the slots of a list of pairs are filled up to the slots of the padded list. -/
theorem fillSlots_of_slotForm {args : Args} {pairs : List (ActionEntry × Byte)} (h : SlotForm args pairs) :
    (fillSlots .lPairs args).Perm (slotArgs (padPairs pairs)) := by
  obtain ⟨hlen, -, hperm⟩ := h
  have hfilter := (perm_slotArgs_iff.mp hperm).2
  have hnames : ∀ k, namesGroup args (.slot k) = false ↔ pairs.length ≤ k := by
    intro k
    rw [namesGroup_eq_false_iff, hfilter]
    rcases Nat.lt_or_ge k pairs.length with hk | hk
    · simp [slotEntry_of_lt hk]
      omega
    · simp [slotEntry_of_le hk, hk]
  obtain ⟨n, hn, hfill, hall, hlast⟩ := fillSlots_pairs args
  have hge : pairs.length ≤ n := by
    rcases Nat.lt_or_ge n 6 with hn6 | hn6
    · exact (hnames n).mp (hall n (Nat.le_refl n) hn6)
    · omega
  have hle : n ≤ pairs.length := by
    rcases Nat.eq_zero_or_pos n with rfl | hpos
    · exact Nat.zero_le _
    · have hnot : ¬ pairs.length ≤ n - 1 := fun hle => by
        have := (hnames (n - 1)).mpr hle
        rw [hlast hpos] at this
        cases this
      omega
  obtain rfl : n = pairs.length := Nat.le_antisymm hle hge
  rw [hfill, slotArgs_padPairs]
  exact hperm.append_right _

/-! ## The conversion of the slots -/

/-- The slots of a list of pairs convert to their fields, slot by slot (rules R142, R148). -/
theorem convertGroups_slots {args : Args} {pairs : List (ActionEntry × Byte)} (hknown : ∀ e ∈ pairs, e.1 ∈ actionTable) :
    ∀ n : Nat, (∀ k (hk : k < pairs.length),
        args.filter (fun e => e.1 == .slot (n + k)) = [(.slot (n + k), slotOperand pairs[k])]) →
      convertGroups defaults .lPairs args true ((List.range' n pairs.length).map Group.slot) =
        .ok ((pairs.zipIdx n).flatMap (fun e => slotFields e.2 e.1)) := by
  induction pairs with
  | nil => exact fun _ _ => rfl
  | cons e pairs ih =>
    obtain ⟨he, hrest⟩ := List.forall_mem_cons.mp hknown
    intro n hfilter
    have htail := ih hrest (n + 1) fun k hk => by
      have hsum : n + 1 + k = n + (k + 1) := by omega
      rw [hsum]
      exact hfilter (k + 1) (Nat.succ_lt_succ hk)
    exact convertGroups_cons_ok (hfilter 0 (Nat.zero_lt_succ _)) (slotField_slotOperand he n) htail

/-- Operands that name the slots of a list of pairs convert to the fields of the padded list. -/
theorem collect_of_slotForm {args : Args} {pairs : List (ActionEntry × Byte)} (h : SlotForm args pairs) :
    collect defaults .lPairs args true = .ok ((padPairs pairs).zipIdx.flatMap (fun e => slotFields e.2 e.1)) := by
  obtain ⟨hlen, hknown, hperm⟩ := h
  have hsix : (padPairs pairs).length = 6 := padPairs_length hlen
  have hfilter := (perm_slotArgs_iff.mp (fillSlots_of_slotForm ⟨hlen, hknown, hperm⟩)).2
  have hconvert := convertGroups_slots (args := fillSlots .lPairs args) (padPairs_known hknown) 0 fun k hk => by
    rw [Nat.zero_add, hfilter, slotEntry_of_lt hk]
  have hunknown : hasUnknown .lPairs args = false := by
    refine hasUnknown_pairs.mpr fun e he => ?_
    obtain ⟨k, hk, hslot⟩ := slotArgs_slot (hperm.mem_iff.mp he)
    exact ⟨k, Nat.lt_of_lt_of_le hk hlen, hslot⟩
  rw [collect_known true hunknown, if_pos rfl, ← hconvert, hsix]
  rfl

/-- The field of the byte after those done writes that byte (rule R9). -/
theorem insBits_next {done rest : Bytes} {b : Byte} (v : Byte) :
    insBits (done ++ b :: rest) (8 * done.length) 8 v.toNat = done ++ v :: rest := by
  rw [insBits_byte _ (by simp), List.set_append_right _ _ (Nat.le_refl _), Nat.sub_self]
  simp [byte]

/-- The payload of the slots: code and count, pair by pair (rule R104). -/
theorem slotFields_foldl_insField (pairs : List (ActionEntry × Byte)) :
    ∀ (n : Nat) (done : Bytes), done.length = 2 * n →
      ((pairs.zipIdx n).flatMap (fun e => slotFields e.2 e.1)).foldl insField (done ++ zeros (2 * pairs.length)) =
        done ++ pairs.flatMap (fun e => [e.1.code, e.2]) := by
  induction pairs with
  | nil => exact fun n done _ => rfl
  | cons e pairs ih =>
    intro n done hdone
    have hzeros : zeros (2 * (e :: pairs).length) = 0 :: 0 :: zeros (2 * pairs.length) := rfl
    have hcode : insBits (done ++ 0 :: 0 :: zeros (2 * pairs.length)) (16 * n) 8 e.1.code.toNat =
        done ++ e.1.code :: 0 :: zeros (2 * pairs.length) := by
      have h := insBits_next (done := done) (b := 0) (rest := 0 :: zeros (2 * pairs.length)) e.1.code
      rwa [hdone, ← Nat.mul_assoc] at h
    have hcount : insBits (done ++ e.1.code :: 0 :: zeros (2 * pairs.length)) (16 * n + 8) 8 e.2.toNat =
        (done ++ [e.1.code, e.2]) ++ zeros (2 * pairs.length) := by
      have h := insBits_next (done := done ++ [e.1.code]) (b := 0) (rest := zeros (2 * pairs.length)) e.2
      rw [List.length_append, hdone, Nat.mul_add, ← Nat.mul_assoc] at h
      simpa using h
    rw [List.zipIdx_cons, List.flatMap_cons, List.foldl_append, hzeros, slotFields, List.foldl_cons,
      foldl_insField_singleton, insField, hcode, hcount, ih (n + 1) _ (by simp; omega)]
    simp

theorem padPairs_bytes {pairs : List (ActionEntry × Byte)} :
    (padPairs pairs).flatMap (fun e => [e.1.code, e.2]) =
      pairs.flatMap (fun e => [e.1.code, e.2]) ++ List.replicate (12 - 2 * pairs.length) 0 := by
  have hcount : (6 - pairs.length) * 2 = 12 - 2 * pairs.length := by omega
  have hempty : [emptyPair.1.code, emptyPair.2] = List.replicate 2 0 := rfl
  rw [padPairs, List.flatMap_append, List.flatMap_replicate, hempty, List.flatten_replicate_replicate, hcount]

/-- The payload of operands that name the slots of a list of at most six pairs (rules R104, R148). -/
theorem padPairs_payload {pairs : List (ActionEntry × Byte)} (h : pairs.length ≤ 6) :
    ((padPairs pairs).zipIdx.flatMap (fun e => slotFields e.2 e.1)).foldl insField (zeros 12) =
      pairs.flatMap (fun e => [e.1.code, e.2]) ++ List.replicate (12 - 2 * pairs.length) 0 := by
  have hpayload := slotFields_foldl_insField (padPairs pairs) 0 [] rfl
  rwa [padPairs_length h, List.nil_append, List.nil_append, padPairs_bytes] at hpayload

/-! ## The operands that convert -/

/-- With every group required, each group of operands that convert has one entry, which converts (rules R93, R143). -/
theorem convertGroups_entry {P : Params} {l : Layout} {args : Args} {gs : List Group} {fs : List Field}
    (h : convertGroups P l args true gs = .ok fs) :
    ∀ g ∈ gs, ∃ o fs', args.filter (fun e => e.1 == g) = [(g, o)] ∧ convert P l g o = .ok fs' := by
  induction gs generalizing fs with
  | nil => simp
  | cons g gs ih =>
    obtain ⟨o, fs₁, rest, hfilter, hc, hrest, -⟩ := convertGroups_cons_inv h
    exact List.forall_mem_cons.mpr ⟨⟨o, fs₁, hfilter, hc⟩, ih hrest⟩

/-- Operands that convert name the slots of a list of pairs (rules R104, R148). -/
theorem slotForm_of_collect {args : Args} {fs : List Field} (h : collect defaults .lPairs args true = .ok fs) :
    ∃ pairs, SlotForm args pairs := by
  obtain ⟨hunknown, hconvert⟩ := collect_ok h
  rw [if_pos rfl] at hconvert
  have hslots := hasUnknown_pairs.mp hunknown
  have hentry : ∀ k : Fin 6, ∃ e : ActionEntry × Byte, e.1 ∈ actionTable ∧
      (fillSlots .lPairs args).filter (fun x => x.1 == .slot k) = [(.slot k, slotOperand e)] := by
    intro k
    have hgroup : Group.slot k ∈ layoutGroups .lPairs := List.mem_map_of_mem (List.mem_range.mpr k.isLt)
    obtain ⟨o, fs', hfilter, hc⟩ := convertGroups_entry hconvert _ hgroup
    obtain ⟨e, he, rfl⟩ := slotField_inv hc
    exact ⟨e, he, hfilter⟩
  choose f hknown hfilter using hentry
  obtain ⟨n, hn, hfill, hall, -⟩ := fillSlots_pairs args
  refine ⟨List.ofFn fun k : Fin n => f (k.castLE hn), by simpa using hn, ?_, perm_slotArgs_iff.mpr ⟨?_, fun k => ?_⟩⟩
  · intro e he
    obtain ⟨k, rfl⟩ := List.mem_ofFn.mp he
    exact hknown _
  · exact fun e he => (hslots e he).imp fun _ => And.right
  · rcases Nat.lt_or_ge k n with hk | hk
    · have hempty : (emptySlots n).filter (fun x => x.1 == .slot k) = [] := by
        refine List.filter_eq_nil_iff.mpr fun x hx heq => ?_
        obtain ⟨j, hj, rfl⟩ := List.mem_map.mp hx
        have hlo := (List.mem_range'_1.mp hj).1
        have hjk : j = k := by simpa using heq
        omega
      have hat := hfilter ⟨k, Nat.lt_of_lt_of_le hk hn⟩
      rw [hfill, List.filter_append, hempty, List.append_nil] at hat
      rw [slotEntry_of_lt (by simpa using hk), hat]
      simp
    · rw [slotEntry_of_le (by simpa using hk)]
      rcases Nat.lt_or_ge k 6 with hk6 | hk6
      · exact namesGroup_eq_false_iff.mp (hall k hk hk6)
      · refine List.filter_eq_nil_iff.mpr fun e he heq => ?_
        obtain ⟨j, hj, hslot⟩ := hslots e he
        have hjk : j = k := by simpa [hslot] using heq
        omega

theorem convertGroups_pairs_error {P : Params} {args : Args} {gs : List Group} {k : ErrorKind}
    (h : convertGroups P .lPairs args true gs = .error k) : k = .badArgument := by
  obtain ⟨-, g, -, -, -, -, ⟨o, -, hc⟩ | rfl⟩ := convertGroups_error h
  · cases g with
    | slot i => exact slotField_error hc
    | _ => cases hc; rfl
  · cases g <;> rfl

/-- Operands of the slots are refused as `BadArgument` only (rules R148, R262 g). -/
theorem collect_pairs_error {P : Params} {args : Args} {k : ErrorKind} (h : collect P .lPairs args true = .error k) :
    k = .badArgument := by
  unfold collect at h
  split at h
  · split at h
    · cases h
      rfl
    · split at h <;> cases h
      · exact convertGroups_pairs_error ‹_›
      · rfl
  · exact convertGroups_pairs_error h

end Sys2Proof.Machine

namespace Sys2Proof.Claims
open Sys2Proof Sys2Proof.Machine Host

/-- The channels of `ENC BUTTON_CONFIG` are one request but for their command code (rules R92, R148). -/
theorem exec_encButtonConfig : ∀ i ∈ [Instr.encButtonConfigSw1, Instr.encButtonConfigSw2, Instr.encButtonConfigSw3],
    ∃ ch, lookupRow defaults.cmdtab 0x6E ch = some rowButtonConfig ∧
      ∀ s, exec i s = .next (encRequest defaults 0x6E ch false s) := by
  simp only [List.forall_mem_cons, List.not_mem_nil, false_imp_iff, implies_true, and_true]
  exact ⟨⟨0, rfl, fun _ => rfl⟩, ⟨1, rfl, fun _ => rfl⟩, ⟨2, rfl, fun _ => rfl⟩⟩

/-- Settles O18: operands convert exactly when they name the slots of a list of pairs, and then to its padded payload. -/
theorem encButtonConfigFrame : Obligations.EncButtonConfigFrame := by
  intro s i hi
  obtain ⟨ch, hrow, hexec⟩ := exec_encButtonConfig i hi
  refine ⟨fun pairs hform => ?_, fun hno => ?_⟩
  · have hframe := encRequest_of_converts (nv := false) (s := s) hrow rfl rfl (collect_of_slotForm hform)
    obtain ⟨hlen, -, -⟩ := hform
    rw [insNv_of_no_flag false _ rfl, padPairs_payload hlen] at hframe
    rw [hexec, hframe]
  · cases hc : collect defaults .lPairs s.opArgs true with
    | ok fs => exact absurd (slotForm_of_collect hc) hno
    | error k =>
      obtain rfl := collect_pairs_error hc
      rw [hexec, encRequest_of_refuses hrow rfl rfl hc]

end Sys2Proof.Claims
end

section
/-! The laws of the checksum (rules R122, R126 to R129): XOR is commutative, associative and its own inverse, so a frame
verifies exactly when its checksum over all its bytes, the trailing one included, is zero (rule R124). -/

namespace Sys2Proof.Machine

/-! ## The checksum of a changed sequence -/

theorem cksum_concat (p : Bytes) (c : Byte) : cksum (p ++ [c]) = cksum p ^^^ c := List.foldl_concat ..

theorem cksum_perm {p q : Bytes} (h : q.Perm p) : cksum q = cksum p := h.foldl_eq 0xFF

theorem cksum_cons (b : Byte) (p : Bytes) : cksum (b :: p) = cksum p ^^^ b := by
  rw [← cksum_perm (List.perm_append_singleton b p), cksum_concat]

/-- When one byte is replaced, the old and the new byte change places. -/
theorem cksum_set (b : Byte) {f : Bytes} {k : Nat} (h : k < f.length) : cksum (f.set k b) ^^^ f[k] = cksum f ^^^ b := by
  induction f generalizing k with
  | nil => cases h
  | cons a f ih =>
    cases k with
    | zero =>
      simp only [List.set_cons_zero, List.getElem_cons_zero, cksum_cons]
      ac_rfl
    | succ k =>
      simp only [List.set_cons_succ, List.getElem_cons_succ, cksum_cons]
      rw [BitVec.xor_assoc, BitVec.xor_comm a, ← BitVec.xor_assoc, ih (Nat.lt_of_succ_lt_succ h)]
      ac_rfl

/-- A difference applied to one byte is applied to the checksum. -/
theorem cksum_set_xor (d : Byte) {f : Bytes} {k : Nat} (h : k < f.length) :
    cksum (f.set k (f.getD k 0 ^^^ d)) = cksum f ^^^ d := by
  rw [← BitVec.xor_left_inj f[k], cksum_set _ h, List.getD_eq_getElem _ _ h]
  ac_rfl

/-- The differences of two sequences byte by byte, XORed onto two accumulators' difference. -/
theorem foldl_xor_zipWith {f g : Bytes} (h : f.length = g.length) (a b : Byte) :
    (List.zipWith (· ^^^ ·) f g).foldl (· ^^^ ·) (a ^^^ b) = f.foldl (· ^^^ ·) a ^^^ g.foldl (· ^^^ ·) b := by
  induction f generalizing g a b with
  | nil => rw [List.length_eq_zero_iff.mp h.symm]; rfl
  | cons x f ih =>
    cases g with
    | nil => cases h
    | cons y g =>
      simp only [List.zipWith_cons_cons, List.foldl_cons, ← ih (Nat.succ.inj h)]
      congr 1
      ac_rfl

/-- The differences of two sequences XOR to the difference of their checksums. -/
theorem foldl_zipWith_eq_cksum_xor {f g : Bytes} (h : f.length = g.length) :
    (List.zipWith (· ^^^ ·) f g).foldl (· ^^^ ·) 0 = cksum f ^^^ cksum g := foldl_xor_zipWith h 0xFF 0xFF

theorem cksum_replicate_zero (m : Nat) : cksum (List.replicate m 0) = 0xFF := by
  induction m with
  | zero => rfl
  | succ m ih => rw [List.replicate_succ, cksum_cons, ih]; rfl

/-- One byte of ones cancels the start value, and each further pair of them cancels itself. -/
theorem cksum_replicate_ones_odd (m : Nat) : cksum (List.replicate (2 * m + 1) 0xFF) = 0 := by
  induction m with
  | zero => rfl
  | succ m ih => rw [Nat.mul_succ, List.replicate_succ, List.replicate_succ, cksum_cons, cksum_cons, ih]; rfl

/-! ## Verification -/

/-- The equivalent test of rule R124: the start value and every byte of the frame, checksum included, XOR to zero. -/
theorem verifyFrame_eq (f : Bytes) : verifyFrame f = (cksum f == 0) := by
  cases f using List.reverseRecOn with
  | nil => rfl
  | append_singleton p c =>
    rw [verifyFrame_concat, cksum_concat, Bool.eq_iff_iff, beq_iff_eq, beq_iff_eq]
    exact BitVec.xor_eq_zero_iff.symm

theorem verifyFrame_congr {f g : Bytes} (h : cksum g = cksum f) : verifyFrame g = verifyFrame f := by
  rw [verifyFrame_eq, verifyFrame_eq, h]

end Sys2Proof.Machine

namespace Sys2Proof.Claims
open Sys2Proof Sys2Proof.Machine Host

/-- Settles O11: the appended byte is the checksum that the verification computes again. -/
theorem appendedFrameVerifies : Obligations.AppendedFrameVerifies := fun p _ => verifyFrame_appendCk p

/-- Settles O12: were the changed frame valid too, both checksums over all bytes would be zero, and the two bytes that change
places in it would be equal. -/
theorem singleByteChangeDetected : Obligations.SingleByteChangeDetected := by
  intro f k b hk hvalid hne
  rw [verifyFrame_eq, beq_iff_eq] at hvalid
  rw [verifyFrame_eq, beq_eq_false_iff_ne]
  intro hchanged
  have hswap := cksum_set b hk
  rw [hchanged, hvalid, BitVec.xor_right_inj] at hswap
  exact hne hswap.symm

/-- Flipping the same bits of two bytes leaves the checksum over all bytes as it was. -/
theorem cksum_set_xor_twice (d : Byte) {f : Bytes} {i j : Nat} (hij : i < j) (hj : j < f.length) :
    cksum ((f.set i (f.getD i 0 ^^^ d)).set j (f.getD j 0 ^^^ d)) = cksum f := by
  have hkept : f.getD j 0 = (f.set i (f.getD i 0 ^^^ d)).getD j 0 := by
    rw [List.getD_eq_getElem?_getD, List.getD_eq_getElem?_getD, List.getElem?_set_ne hij.ne]
  rw [hkept, cksum_set_xor d (by rwa [List.length_set]), cksum_set_xor d (hij.trans hj), BitVec.xor_assoc, BitVec.xor_self]
  exact BitVec.xor_zero

/-- Settles O13: each undetected change leaves the checksum over all bytes as it was. -/
theorem checksumBlindSpots : Obligations.ChecksumBlindSpots := by
  refine ⟨fun p q c hperm => ?_, fun f g hlen hcancel => ?_, fun f i j k hij hj _ => ?_, fun m => ?_, fun m => ?_⟩
  · exact verifyFrame_congr (cksum_perm (hperm.append_right [c]))
  · rw [foldl_zipWith_eq_cksum_xor hlen] at hcancel
    exact verifyFrame_congr (BitVec.xor_eq_zero_iff.mp hcancel).symm
  · exact verifyFrame_congr (cksum_set_xor_twice _ hij hj)
  · rw [verifyFrame_eq, cksum_replicate_ones_odd]
    rfl
  · rw [verifyFrame_eq, cksum_replicate_zero]
    rfl

end Sys2Proof.Claims
end

section
/-! The running form of the checksum (rules R120 to R122): the requests one by one, and the machine's run over them. -/

namespace Sys2Proof.Claims
open Sys2Proof Sys2Proof.Machine Host

/-- Settles O4: each word is the encoding of its instruction, which decodes to it. -/
theorem sampleWordsDecode : Obligations.SampleWordsDecode :=
  ⟨decode_encode .csInit, decode_encode (.csAbsorb 0xA5), decode_encode (.encChargingConfig true),
    decode_encode .decButtonConfigSw3, decode_encode .xferRdPwmDuty2, decode_encode .xferWrPowerOff,
    decode_encode .xferWrvRtcTime, decode_encode .xferRmwRtcAlarm⟩

/-- Settles O8: the two meanings are `setAcc` and `respond`, one after the other. -/
theorem csInitAndAbsorbWriteAcc : Obligations.CsInitAndAbsorbWriteAcc := fun _ => ⟨rfl, fun _ => rfl⟩

theorem run_succ_of_step {M : Host.Core} {s t : M.State} (h : M.step s = .next t) (k : Nat) :
    M.run (k + 1) s = M.run k t := by
  rw [Host.Core.run, h]

/-- The request `CS.ABSORB b`, as the running form presents it. -/
def absorbRequest (b : Byte) : Request := { word := encode (.csAbsorb b), n := 0, args := [], bytes := [] }

/-- The engine waits in `IDLE`, undisturbed, with one `CS.ABSORB` per byte of `q` at the port. -/
def Absorbing (q : Bytes) (s : State) : Prop := Quiet s ∧ s.st = .idle ∧ s.reqs = q.map absorbRequest

theorem runningForm_eq (q : Bytes) :
    runningForm q = { word := encode .csInit, n := 0, args := [], bytes := [] } :: q.map absorbRequest := rfl

/-- `CS.INIT` leads to the absorption of the bytes, from the start value (rule R120). -/
theorem step_runningForm {s : State} {q : Bytes} (hq : Quiet s) (hst : s.st = .idle) (hreqs : s.reqs = runningForm q) :
    ∃ t, step s = .next t ∧ t.acc = 0xFF ∧ Absorbing q t := by
  have hstep := stepRunsDecodedInstruction s _ _ _ hq hst (hreqs.trans (runningForm_eq q)) (decode_encode .csInit)
  exact ⟨_, hstep.trans (csInitAndAbsorbWriteAcc _).1, rfl, hq, hst, rfl⟩

/-- `CS.ABSORB` XORs its byte onto the accumulator, and the other bytes remain (rule R121). -/
theorem step_absorbing {s : State} {b : Byte} {q : Bytes} (h : Absorbing (b :: q) s) :
    ∃ t, step s = .next t ∧ t.acc = s.acc ^^^ b ∧ Absorbing q t := by
  obtain ⟨hq, hst, hreqs⟩ := h
  have hstep := stepRunsDecodedInstruction s _ _ _ hq hst hreqs (decode_encode (.csAbsorb b))
  exact ⟨_, hstep.trans ((csInitAndAbsorbWriteAcc _).2 b), rfl, hq, hst, rfl⟩

/-- The run over the bytes folds them into the accumulator. -/
theorem run_absorbing {q : Bytes} {s : State} (h : Absorbing q s) :
    ∃ t, Host.Core.run Sys2Proof.core q.length s = .next t ∧ t.acc = q.foldl (· ^^^ ·) s.acc ∧ Absorbing [] t := by
  induction q generalizing s with
  | nil => exact ⟨s, rfl, rfl, h⟩
  | cons b q ih =>
    obtain ⟨u, hstep, hacc, hu⟩ := step_absorbing h
    obtain ⟨t, hrun, hfold, ht⟩ := ih hu
    rw [hacc] at hfold
    exact ⟨t, (run_succ_of_step (M := Sys2Proof.core) hstep _).trans hrun, hfold, ht⟩

/-- Settles O9: the run folds the bytes into the start value, and the checksum does not depend on their order. -/
theorem runningFormAgrees : Obligations.RunningFormAgrees := by
  intro s p q hperm hq hst hreqs
  obtain ⟨u, hstep, hinit, hu⟩ := step_runningForm hq hst hreqs
  obtain ⟨t, hrun, hacc, -, hidle, hdone⟩ := run_absorbing hu
  rw [hinit] at hacc
  exact ⟨t, (run_succ_of_step (M := Sys2Proof.core) hstep _).trans hrun, hacc.trans (cksum_perm hperm), hidle, hdone⟩

end Sys2Proof.Claims
end

section
/-! `ENC RTC_TIME` (rules R100, R149): operands in range convert to the time's fields, which are its seven bytes; and `ENC` of
the read-only commands (rule R151). -/

namespace Sys2Proof.Machine
open Sys2Proof.Claims Host

/-- A number in a range is stored as its distance from the field's base (rules R86, R141). -/
theorem uintField_of_mem {pos w lo hi base v : Nat} (e : ErrorKind) (hlo : lo ≤ v) (hhi : v ≤ hi) :
    uintField pos w lo hi base e (.int v) = .ok [⟨pos, w, v - base⟩] := by
  have hrange : (lo : Int) ≤ v ∧ (v : Int) ≤ hi := by omega
  exact (if_pos hrange).trans (by simp)

/-- The fields of a time, group by group in the layout's order: the hour byte's three, and the year counted from 2000 (rule
R100). -/
def timeFields (second minute hb weekday day month year : Nat) : List Field :=
  [⟨0, 6, second⟩, ⟨8, 6, minute⟩, ⟨16, 5, hb % 32⟩, ⟨21, 1, hb / 32 % 2⟩, ⟨22, 1, hb / 64⟩, ⟨24, 3, weekday⟩,
   ⟨32, 5, day⟩, ⟨40, 4, month⟩, ⟨48, 7, year⟩]

/-- A payload that reads as a time's fields, its other bits zero, is the time's seven bytes (rules R100, R149). -/
theorem timeBytes_of_fields {second minute hb weekday day month year : Nat} {p : Bytes} (hlen : p.length = 7)
    (hread : ∀ f ∈ timeFields second minute hb weekday day month year, extBits p f.pos f.w = f.v)
    (hunused : extBits p 6 2 = 0 ∧ extBits p 14 2 = 0 ∧ extBits p 23 1 = 0 ∧ extBits p 27 5 = 0 ∧ extBits p 37 3 = 0 ∧
      extBits p 44 4 = 0 ∧ extBits p 55 1 = 0) :
    p = [byte second, byte minute, byte hb, byte weekday, byte day, byte month, byte year] := by
  simp only [timeFields, List.forall_mem_cons, List.not_mem_nil, false_implies, implies_true, and_true] at hread
  obtain ⟨hsecond, hminute, hhour, hpm, htwelve, hweekday, hday, hmonth, hyear⟩ := hread
  obtain ⟨h0, h1, h2, h3, h4, h5, h6⟩ := hunused
  have byte0 : extBits p 0 8 = extBits p 0 6 + extBits p 6 2 * 64 := extBits_add p 0 6 2
  have byte1 : extBits p 8 8 = extBits p 8 6 + extBits p 14 2 * 64 := extBits_add p 8 6 2
  have byte2 : extBits p 16 8 = extBits p 16 5 + extBits p 21 3 * 32 := extBits_add p 16 5 3
  have flags : extBits p 21 3 = extBits p 21 1 + extBits p 22 2 * 2 := extBits_add p 21 1 2
  have flagTwelve : extBits p 22 2 = extBits p 22 1 + extBits p 23 1 * 2 := extBits_add p 22 1 1
  have byte3 : extBits p 24 8 = extBits p 24 3 + extBits p 27 5 * 8 := extBits_add p 24 3 5
  have byte4 : extBits p 32 8 = extBits p 32 5 + extBits p 37 3 * 32 := extBits_add p 32 5 3
  have byte5 : extBits p 40 8 = extBits p 40 4 + extBits p 44 4 * 16 := extBits_add p 40 4 4
  have byte6 : extBits p 48 8 = extBits p 48 7 + extBits p 55 1 * 128 := extBits_add p 48 7 1
  rw [payload_eq_map_extBits p, hlen]
  change [byte (extBits p 0 8), byte (extBits p 8 8), byte (extBits p 16 8), byte (extBits p 24 8), byte (extBits p 32 8),
    byte (extBits p 40 8), byte (extBits p 48 8)] = _
  congr <;> omega

/-- The payload of a time whose values fit their fields (rules R100, R149). -/
theorem timePayload_eq {second minute hb weekday day month year : Nat} (hs : second < 64) (hm : minute < 64)
    (hhb : hb < 128) (hw : weekday < 8) (hd : day < 32) (hmo : month < 16) (hy : year < 128) :
    (timeFields second minute hb weekday day month year).foldl insField (zeros 7) =
      [byte second, byte minute, byte hb, byte weekday, byte day, byte month, byte year] := by
  have hunused : ∀ pos w, (∀ f ∈ timeFields second minute hb weekday day month year, pos + w ≤ f.pos ∨ f.pos + f.w ≤ pos) →
      extBits ((timeFields second minute hb weekday day month year).foldl insField (zeros 7)) pos w = 0 :=
    fun pos w h => (extBits_foldl_insField_apart _ h).trans (extBits_zeros ..)
  refine timeBytes_of_fields (by simp) (extBits_foldl_insField ?_ ?_) ⟨?_, ?_, ?_, ?_, ?_, ?_, ?_⟩
  · simp [timeFields]; omega
  · simp [timeFields, Field.Apart]
  all_goals exact hunused _ _ (by simp [timeFields])

/-- The hour operands in range convert to the parts of their hour byte (rules R100, R149). -/
theorem timeHourField_of_form {o : Operand} {hb : Nat} (h : TimeHourForm o hb) :
    timeHourField o = .ok (timeHourFields (hb % 32) (hb / 32 % 2) (hb / 64)) ∧ hb < 128 := by
  have key : ∃ n pm m12, timeHourField o = .ok (timeHourFields n pm m12) ∧ hb = 64 * m12 + 32 * pm + n ∧ n < 32 ∧ pm < 2 ∧
      m12 < 2 := by
    rcases h with ⟨n, hn, rfl, hhb⟩ | ⟨n, hlo, hn, rfl, hhb⟩ | ⟨n, hlo, hn, rfl, hhb⟩
    · exact ⟨n, 0, 0, if_pos (by omega), by omega, by omega, by decide, by decide⟩
    · exact ⟨n, 0, 1, if_pos (by omega), by omega, by omega, by decide, by decide⟩
    · exact ⟨n, 1, 1, if_pos (by omega), by omega, by omega, by decide, by decide⟩
  obtain ⟨n, pm, m12, hfields, hhb, hn, hpm, hm12⟩ := key
  have number : hb % 32 = n := by omega
  have flagPm : hb / 32 % 2 = pm := by omega
  have flagTwelve : hb / 64 = m12 := by omega
  rw [number, flagPm, flagTwelve]
  exact ⟨hfields, by omega⟩

/-- The operands of a time in range convert to its fields (rules R142, R149). -/
theorem collect_time {second minute hb weekday day month year : Nat} {hour : Operand} (hs : second ≤ 59) (hm : minute ≤ 59)
    (hhour : TimeHourForm hour hb) (hw : 1 ≤ weekday) (hw' : weekday ≤ 7) (hd : 1 ≤ day) (hd' : day ≤ 31) (hmo : 1 ≤ month)
    (hmo' : month ≤ 12) (hy : 2000 ≤ year) (hy' : year ≤ 2099) :
    collect defaults .lTime (timeArgs second minute hour weekday day month year) true =
      .ok (timeFields second minute hb weekday day month (year - 2000)) := by
  have hsec : convert defaults .lTime .second (.int second) = _ := uintField_of_mem .invalidSecond (Nat.zero_le _) hs
  have hmin : convert defaults .lTime .minute (.int minute) = _ := uintField_of_mem .invalidMinute (Nat.zero_le _) hm
  have hhr : convert defaults .lTime .hour hour = _ := (timeHourField_of_form hhour).1
  have hwd : convert defaults .lTime .weekday (.int weekday) = _ := uintField_of_mem .invalidWeekday hw hw'
  have hdy : convert defaults .lTime .day (.int day) = _ := uintField_of_mem .invalidDay hd hd'
  have hmth : convert defaults .lTime .month (.int month) = _ := uintField_of_mem .invalidMonth hmo hmo'
  have hyr : convert defaults .lTime .year (.int year) = .ok [⟨48, 7, year - 2000⟩] := uintField_of_mem .invalidYear hy hy'
  rw [collect_known true rfl]
  exact convertGroups_cons_ok rfl hsec (convertGroups_cons_ok rfl hmin (convertGroups_cons_ok rfl hhr
    (convertGroups_cons_ok rfl hwd (convertGroups_cons_ok rfl hdy (convertGroups_cons_ok rfl hmth
    (convertGroups_cons_ok rfl hyr rfl))))))

end Sys2Proof.Machine

namespace Sys2Proof.Claims
open Sys2Proof Sys2Proof.Machine Host

/-- Settles O19: operands in range convert to the fields of the seven bytes. -/
theorem encRtcTimeFrame : Obligations.EncRtcTimeFrame := by
  intro s second minute hb weekday day month year hour hs hm hhour hw hw' hd hd' hmo hmo' hy hy' hargs
  have hcollect := hargs ▸ collect_time hs hm hhour hw hw' hd hd' hmo hmo' hy hy'
  have hframe := encRequest_of_collect (P := defaults) (cmd := 0xB0) (ch := 0) (row := rowRtcTime) rfl rfl hcollect
  obtain ⟨-, hhb⟩ := timeHourField_of_form hhour
  rw [timePayload_eq (by omega) (by omega) hhb (by omega) (by omega) (by omega) (by omega)] at hframe
  exact congrArg Outcome.next hframe

/-- Settles O22: the row of a read-only command has no write length, so the operands are not looked at. -/
theorem encReadOnlyRefused : Obligations.EncReadOnlyRefused := by
  unfold Obligations.EncReadOnlyRefused readOnlyEncs
  simp only [List.forall_mem_cons, List.not_mem_nil, false_imp_iff, implies_true, and_true]
  exact ⟨⟨rfl, fun _ => rfl⟩, ⟨rfl, fun _ => rfl⟩, ⟨rfl, fun _ => rfl⟩⟩

end Sys2Proof.Claims
end

section
/-! What an encoded payload holds (rules R9, R88, R142): every field of every operand reads back, for a row whose fields lie
apart in its payload. -/

namespace Sys2Proof.Machine
open Sys2Proof.Claims Host

/-! ## Fields that read back -/

/-- The payload reads as the fields listed, each value cut to its field (rule R9). -/
def ReadsAs (p : Bytes) (fs : List Field) : Prop := ∀ f ∈ fs, extBits p f.pos f.w = f.v % 2 ^ f.w

/-- A field with its value cut to its width. -/
def cutField (f : Field) : Field := { f with v := f.v % 2 ^ f.w }

/-- Only the low bits of a value are inserted (rule R9). -/
theorem insBits_congr (p : Bytes) (pos : Nat) {w v v' : Nat} (h : ∀ j < w, v.testBit j = v'.testBit j) :
    insBits p pos w v = insBits p pos w v' := by
  induction w with
  | zero => rfl
  | succ w ih => rw [insBits, insBits, ih fun j hj => h j (by omega), h w (by omega)]

theorem insField_cut (p : Bytes) (f : Field) : insField p (cutField f) = insField p f :=
  insBits_congr p f.pos fun j (hj : j < f.w) => by simp [cutField, Nat.testBit_mod_two_pow, hj]

theorem readsAs_foldl_insField {p : Bytes} {fs : List Field} (hfit : ∀ f ∈ fs, f.pos + f.w ≤ 8 * p.length)
    (hapart : fs.Pairwise Field.Apart) : ReadsAs (fs.foldl insField p) fs := by
  have hcut : (fs.map cutField).foldl insField p = fs.foldl insField p := by
    simp only [List.foldl_map, insField_cut]
  intro f hf
  have hmem : cutField f ∈ fs.map cutField := List.mem_map_of_mem hf
  rw [← hcut]
  refine extBits_foldl_insField (fs := fs.map cutField) ?_ (List.pairwise_map.mpr hapart) (cutField f) hmem
  exact List.forall_mem_map.mpr fun g hg => ⟨hfit g hg, Nat.mod_lt _ (Nat.two_pow_pos _)⟩

/-- The flag `nv` changes no field that does not own its bit (rule R88). -/
theorem extBits_insNv_outside {row : CmdRow} (nv : Bool) (p : Bytes) {pos w : Nat}
    (h : row.nv = true → ¬ (pos ≤ 7 ∧ 7 < pos + w)) : extBits (insNv row nv p) pos w = extBits p pos w :=
  extBits_congr _ _ _ _ fun c hlo hhi => payloadBit_insNv_outside row nv p fun hnv hc => h hnv (by omega)

/-! ## The fields of a row -/

/-- The positions of the fields of a layout, group by group (rules R94 to R104). -/
def layoutSpans (l : Layout) : List (Nat × Nat) := (layoutGroups l).flatMap (groupSpans l)

/-- The fields of a row lie in a payload of `n` bytes, share no bit, and leave the bit of the flag `nv` to it (rules R86,
R88, R90). -/
def FieldsApart (row : CmdRow) (n : Nat) : Prop :=
  (∀ a ∈ layoutSpans row.layout, a.1 + a.2 ≤ 8 * n ∧ (row.nv = true → ¬ (a.1 ≤ 7 ∧ 7 < a.1 + a.2))) ∧
    (layoutSpans row.layout).Pairwise (fun a b => b.1 + b.2 ≤ a.1 ∨ a.1 + a.2 ≤ b.1)

/-- Operands that convert give the fields of their groups, in order (rule R142). -/
theorem convertGroups_spans {P : Params} {l : Layout} {args : Args} {gs : List Group} {fs : List Field}
    (h : convertGroups P l args true gs = .ok fs) : fs.map (fun f => (f.pos, f.w)) = gs.flatMap (groupSpans l) := by
  induction gs generalizing fs with
  | nil => cases h; rfl
  | cons g gs ih =>
    obtain ⟨o, fs₁, rest, -, hc, hrest, rfl⟩ := convertGroups_cons_inv h
    rw [List.map_append, convert_spans hc, ih hrest, List.flatMap_cons]

/-- Each group of operands that convert has one entry, whose fields are among those of the operands (rules R93, R142). -/
theorem convertGroups_entry_fields {P : Params} {l : Layout} {args : Args} {gs : List Group} {fs : List Field}
    (h : convertGroups P l args true gs = .ok fs) :
    ∀ g ∈ gs, ∃ o fs', args.filter (fun e => e.1 == g) = [(g, o)] ∧ convert P l g o = .ok fs' ∧ fs' ⊆ fs := by
  induction gs generalizing fs with
  | nil => simp
  | cons g gs ih =>
    obtain ⟨o, fs₁, rest, hfilter, hc, hrest, rfl⟩ := convertGroups_cons_inv h
    refine List.forall_mem_cons.mpr ⟨⟨o, fs₁, hfilter, hc, List.subset_append_left _ _⟩, fun g' hg' => ?_⟩
    obtain ⟨o', fs', hfilter', hc', hsub⟩ := ih hrest g' hg'
    exact ⟨o', fs', hfilter', hc', List.subset_append_of_subset_right _ hsub⟩

/-- Nothing is added to operands that name every group (rules R104, R148). -/
theorem fillSlots_of_full {l : Layout} {args : Args} (hkeys : args.map (·.1) = layoutGroups l) : fillSlots l args = args := by
  by_cases hl : l = .lPairs
  · subst hl
    obtain ⟨n, hn, hfill, hall, -⟩ := fillSlots_pairs args
    have hnamed : ∀ k < 6, namesGroup args (.slot k) = true := by
      intro k hk
      have hmem : Group.slot k ∈ args.map (·.1) := hkeys ▸ List.mem_map_of_mem (List.mem_range.mpr hk)
      simpa [namesGroup] using hmem
    rcases Nat.lt_or_eq_of_le hn with hlt | rfl
    · exact absurd (hall n (Nat.le_refl n) hlt) (by simp [hnamed n hlt])
    · simpa [emptySlots] using hfill
  · exact fillSlots_of_ne_pairs args hl

/-! ## The operands of a payload -/

/-- The payload holds operands in canonical form of the groups listed: every operand's fields read back (rules R142, R152). -/
def Holds (P : Params) (l : Layout) (p : Bytes) (gs : List Group) (args : Args) : Prop :=
  args.map (·.1) = gs ∧ ∀ e ∈ args, canonicalOperand e.2 ∧ ∃ fs, convert P l e.1 e.2 = .ok fs ∧ ReadsAs p fs

theorem Holds.nil_inv {P : Params} {l : Layout} {p : Bytes} {args : Args} (h : Holds P l p [] args) : args = [] :=
  List.map_eq_nil_iff.mp h.1

theorem Holds.cons_inv {P : Params} {l : Layout} {p : Bytes} {g : Group} {gs : List Group} {args : Args}
    (h : Holds P l p (g :: gs) args) :
    ∃ o fs rest, args = (g, o) :: rest ∧ canonicalOperand o ∧ convert P l g o = .ok fs ∧ ReadsAs p fs ∧
      Holds P l p gs rest := by
  obtain ⟨hkeys, hall⟩ := h
  obtain ⟨⟨g', o⟩, rest, rfl, rfl, hrest⟩ := List.map_eq_cons_iff.mp hkeys
  obtain ⟨⟨hcanon, fs, hconv, hread⟩, htail⟩ := List.forall_mem_cons.mp hall
  exact ⟨o, fs, rest, rfl, hcanon, hconv, hread, hrest, htail⟩

/-- The payload of an encoded frame holds the operands (rules R88, R142). -/
theorem holds_of_collect {P : Params} {row : CmdRow} {n : Nat} {args : Args} {fs : List Field} (nv : Bool)
    (hspans : FieldsApart row n) (hcanon : CanonicalArgs row.layout args) (hc : collect P row.layout args true = .ok fs) :
    Holds P row.layout (insNv row nv (fs.foldl insField (zeros n))) (layoutGroups row.layout) args := by
  obtain ⟨hkeys, hops⟩ := hcanon
  obtain ⟨hfit, hapart⟩ := hspans
  have hconv := (collect_ok hc).2
  rw [if_pos rfl, fillSlots_of_full hkeys] at hconv
  have hlay : layoutSpans row.layout = fs.map (fun f => (f.pos, f.w)) := (convertGroups_spans hconv).symm
  rw [hlay] at hfit hapart
  have hfields := List.forall_mem_map.mp hfit
  have hfieldsApart : fs.Pairwise Field.Apart := (List.pairwise_map (f := fun f : Field => (f.pos, f.w))).mp hapart
  have hread : ReadsAs (insNv row nv (fs.foldl insField (zeros n))) fs := by
    intro f hf
    obtain ⟨-, hflag⟩ := hfields f hf
    rw [extBits_insNv_outside nv _ hflag]
    exact readsAs_foldl_insField (fun f hf => by simpa using (hfields f hf).1) hfieldsApart f hf
  refine ⟨hkeys, fun e he => ⟨hops e he, ?_⟩⟩
  obtain ⟨o, fs', hfilter, hc', hsub⟩ := convertGroups_entry_fields hconv e.1 (hkeys ▸ List.mem_map_of_mem he)
  have hentry : e ∈ args.filter (fun x => x.1 == e.1) := List.mem_filter.mpr ⟨he, beq_self_eq_true _⟩
  rw [hfilter, List.mem_singleton] at hentry
  have ho : e.2 = o := congrArg Prod.snd hentry
  exact ⟨fs', ho ▸ hc', fun f hf => hread f (hsub hf)⟩

end Sys2Proof.Machine
end

section
/-! Decode after encode (rule R152): a payload that holds operands in canonical form unpacks to them, layout by layout. -/

namespace Sys2Proof.Machine
open Sys2Proof.Claims Host

/-! ## A field that stands alone -/

/-- A value that fits its field reads back (rule R9). -/
theorem ReadsAs.cons_inv {p : Bytes} {pos w v : Nat} {fs : List Field} (h : ReadsAs p (⟨pos, w, v⟩ :: fs))
    (hv : v < 2 ^ w) : extBits p pos w = v ∧ ReadsAs p fs := by
  obtain ⟨hfirst, hrest⟩ := List.forall_mem_cons.mp h
  exact ⟨hfirst.trans (Nat.mod_eq_of_lt hv), hrest⟩

theorem payloadBit_of_extBits_one {p : Bytes} {pos : Nat} {b : Bool} (h : extBits p pos 1 = b.toNat) : payloadBit p pos = b := by
  rw [extBits_one] at h
  cases b <;> simpa using h

/-- A flag reads back as its operand (rule R86). -/
theorem flagField_read {p : Bytes} {pos : Nat} {e : ErrorKind} {o : Operand} {fs : List Field}
    (h : flagField pos e o = .ok fs) (hread : ReadsAs p fs) : o = .bool (payloadBit p pos) := by
  obtain ⟨b, rfl⟩ := flagField_inv h
  cases h
  obtain ⟨hbit, -⟩ := hread.cons_inv (Bool.toNat_lt b)
  rw [payloadBit_of_extBits_one hbit]

/-- A number reads back as its operand, within its bounds (rules R86, R141). -/
theorem uintField_read {p : Bytes} {pos w lo hi base : Nat} {e : ErrorKind} {o : Operand} {fs : List Field}
    (hbase : base ≤ lo) (hfit : hi < base + 2 ^ w) (h : uintField pos w lo hi base e o = .ok fs) (hread : ReadsAs p fs) :
    o = .int (extBits p pos w + base : Nat) ∧ lo ≤ extBits p pos w + base ∧ extBits p pos w + base ≤ hi := by
  unfold uintField at h
  split at h
  · rename_i v
    split at h <;> cases h
    rename_i hrange
    obtain ⟨hval, -⟩ := hread.cons_inv (by omega)
    exact ⟨congrArg Operand.int (by omega), by omega, by omega⟩
  · cases h

/-- The operand of a number's group, read off the payload, and the operands after it. -/
theorem Holds.uint_inv {P : Params} {l : Layout} {p : Bytes} {g : Group} {gs : List Group} {args : Args}
    (h : Holds P l p (g :: gs) args) {pos w : Nat} (lo hi base : Nat) {e : ErrorKind}
    (hg : convert P l g = uintField pos w lo hi base e) (hbase : base ≤ lo) (hfit : hi < base + 2 ^ w) :
    ∃ rest, args = (g, .int (extBits p pos w + base : Nat)) :: rest ∧ lo ≤ extBits p pos w + base ∧
      extBits p pos w + base ≤ hi ∧ Holds P l p gs rest := by
  obtain ⟨o, fs, rest, rfl, -, hconv, hread, hrest⟩ := h.cons_inv
  rw [hg] at hconv
  obtain ⟨rfl, hlo, hhi⟩ := uintField_read hbase hfit hconv hread
  exact ⟨rest, rfl, hlo, hhi, hrest⟩

/-- A duty reads back in tenths of a percent (rules R99, R152). -/
theorem dutyField_read {p : Bytes} {pos : Nat} {o : Operand} {fs : List Field} (h : dutyField pos o = .ok fs)
    (hread : ReadsAs p fs) : ∃ v : Nat, o = .int v ∧ dutyTenths (extBits p pos 10) = 10 * v := by
  obtain ⟨v, hv, rfl⟩ := dutyField_inv h
  cases (dutyField_of_le hv).symm.trans h
  obtain ⟨hraw, -⟩ := hread.cons_inv (by simp only [dutyRaw]; omega)
  refine ⟨v, rfl, ?_⟩
  rw [hraw, dutyRaw, dutyTenths]
  omega

/-! ## The hour of a time -/

theorem timeHourField_inv {o : Operand} {fs : List Field} (h : timeHourField o = .ok fs) : ∃ hb, TimeHourForm o hb := by
  unfold timeHourField at h
  split at h
  · rename_i n
    split at h <;> cases h
    exact ⟨n.toNat, .inl ⟨n.toNat, by omega, congrArg Operand.h24 (by omega), rfl⟩⟩
  · rename_i n
    split at h <;> cases h
    exact ⟨_, .inr (.inl ⟨n.toNat, by omega, by omega, congrArg Operand.am (by omega), rfl⟩)⟩
  · rename_i n
    split at h <;> cases h
    exact ⟨_, .inr (.inr ⟨n.toNat, by omega, by omega, congrArg Operand.pm (by omega), rfl⟩)⟩
  · cases h

/-- The parts of an hour byte are recognised as the operand that stands for it (rules R100, R192). -/
theorem unpackTimeHour_of_form {o : Operand} {hb : Nat} {pm m12 : Bool} (h : TimeHourForm o hb)
    (hpm : pm.toNat = hb / 32 % 2) (hm12 : m12.toNat = hb / 64) :
    ∃ t, unpackTimeHour (hb % 32) pm m12 = some t ∧ hourOperand t = o := by
  rcases h with ⟨n, hn, rfl, rfl⟩ | ⟨n, hlo, hn, rfl, rfl⟩ | ⟨n, hlo, hn, rfl, rfl⟩
  · obtain rfl : pm = false := Bool.toNat_eq_zero.mp (by omega)
    obtain rfl : m12 = false := Bool.toNat_eq_zero.mp (by omega)
    have number : hb % 32 = hb := by omega
    have hrange : hb ≤ 23 ∧ false = false := ⟨hn, rfl⟩
    exact ⟨.h24 hb, number.symm ▸ if_pos hrange, rfl⟩
  · obtain rfl : pm = false := Bool.toNat_eq_zero.mp (by omega)
    obtain rfl : m12 = true := Bool.toNat_eq_one.mp (by omega)
    have number : (64 + n) % 32 = n := by omega
    exact ⟨.am n, number.symm ▸ if_pos (And.intro hlo hn), rfl⟩
  · obtain rfl : pm = true := Bool.toNat_eq_one.mp (by omega)
    obtain rfl : m12 = true := Bool.toNat_eq_one.mp (by omega)
    have number : (96 + n) % 32 = n := by omega
    exact ⟨.pm n, number.symm ▸ if_pos (And.intro hlo hn), rfl⟩

theorem timeHourField_read {p : Bytes} {o : Operand} {fs : List Field} (h : timeHourField o = .ok fs)
    (hread : ReadsAs p fs) :
    ∃ t, unpackTimeHour (extBits p 16 5) (payloadBit p 21) (payloadBit p 22) = some t ∧ hourOperand t = o := by
  obtain ⟨hb, hform⟩ := timeHourField_inv h
  obtain ⟨hfields, hhb⟩ := timeHourField_of_form hform
  cases hfields.symm.trans h
  obtain ⟨hnumber, hflags⟩ := hread.cons_inv (Nat.mod_lt _ (by decide))
  obtain ⟨hpm, htwelve⟩ := hflags.cons_inv (Nat.mod_lt _ (by decide))
  obtain ⟨hm12, -⟩ := htwelve.cons_inv (by omega)
  rw [extBits_one] at hpm hm12
  rw [hnumber]
  exact unpackTimeHour_of_form hform hpm hm12

/-! ## The groups of an alarm -/

theorem alarmMinuteField_inv {o : Operand} {fs : List Field} (h : alarmMinuteField defaults o = .ok fs) :
    ∃ b1 periodic, MinuteForm o b1 periodic := by
  unfold alarmMinuteField at h
  split at h
  · rename_i m
    split at h <;> cases h
    exact ⟨m.toNat, 0, .inl ⟨by omega, congrArg Operand.minuteOf (by omega), rfl⟩⟩
  · rename_i n
    split at h <;> cases h
    rename_i hrange
    obtain ⟨hlo, hhi⟩ : (0 : Int) < n ∧ n ≤ 60 := hrange
    exact ⟨n.toNat, 1, .inr ⟨by omega, by omega, congrArg Operand.period (by omega), rfl⟩⟩
  · cases h

theorem alarmMinuteField_read {p : Bytes} {o : Operand} {fs : List Field} (h : alarmMinuteField defaults o = .ok fs)
    (hread : ReadsAs p fs) : unpackAlarmMinute defaults (extBits p 8 6) (payloadBit p 49) = some o := by
  obtain ⟨b1, periodic, hform⟩ := alarmMinuteField_inv h
  obtain ⟨hfields, hb1, hp⟩ := alarmMinuteField_of_form hform
  cases hfields.symm.trans h
  obtain ⟨hvalue, hrest⟩ := hread.cons_inv hb1
  obtain ⟨hflag, -⟩ := hrest.cons_inv hp
  rw [unpackAlarmMinute_eq_some_iff, ← extBits_one, hvalue, hflag]
  exact hform

theorem hourSpec_form {o : Operand} {sel : Selection} {hour12 : Nat} (h : hourSpec o = some (sel, hour12)) :
    ∃ hm, HourForm o hm hour12 := by
  unfold hourSpec at h
  split at h
  · rename_i n
    split at h <;> cases h
    exact ⟨_, .inl ⟨n.toNat, by omega, congrArg Operand.hourOf (by omega), rfl, rfl⟩⟩
  · rename_i n
    split at h <;> cases h
    exact ⟨_, .inr (.inl ⟨n.toNat, by omega, by omega, congrArg Operand.hourAm (by omega), rfl, rfl⟩)⟩
  · rename_i n
    split at h <;> cases h
    exact ⟨_, .inr (.inr (.inl ⟨n.toNat, by omega, by omega, congrArg Operand.hourPm (by omega), rfl, rfl⟩))⟩
  · rename_i a b
    split at h <;> cases h
    exact ⟨_, .inr (.inr (.inr (.inl ⟨a.toNat, b.toNat, by omega, by omega, by omega,
      congrArg₂ Operand.hourPair (by omega) (by omega), rfl, rfl⟩)))⟩
  · cases h
    exact ⟨_, .inr (.inr (.inr (.inr ⟨rfl, rfl, rfl⟩)))⟩
  · cases h

theorem alarmHourField_inv {o : Operand} {fs : List Field} (h : alarmHourField o = .ok fs) :
    ∃ hm hour12, HourForm o hm hour12 := by
  unfold alarmHourField at h
  split at h
  · rename_i hspec
    obtain ⟨hm, hform⟩ := hourSpec_form hspec
    exact ⟨hm, _, hform⟩
  · cases h

theorem alarmHourField_read {p : Bytes} {o : Operand} {fs : List Field} (h : alarmHourField o = .ok fs)
    (hcanon : canonicalOperand o) (hread : ReadsAs p fs) :
    unpackAlarmHour (extBits p 16 24) (payloadBit p 50) = some o := by
  obtain ⟨hm, hour12, hform⟩ := alarmHourField_inv h
  obtain ⟨hfields, hhm, hh⟩ := alarmHourField_of_form hform
  cases hfields.symm.trans h
  obtain ⟨hmask, hrest⟩ := hread.cons_inv hhm
  obtain ⟨hflag, -⟩ := hrest.cons_inv hh
  rw [extBits_one] at hflag
  rw [hmask, unpackAlarmHour_eq_some_iff hhm]
  exact ⟨hcanon, hour12, hform, .inr hflag.symm⟩

theorem alarmDayField_inv {o : Operand} {fs : List Field} (h : alarmDayField o = .ok fs) : ∃ b5 dom, DayForm o b5 dom := by
  unfold alarmDayField at h
  split at h
  · rename_i d
    split at h <;> cases h
    exact ⟨_, _, .inl ⟨d.toNat, by omega, by omega, congrArg Operand.dayOfMonth (by omega), rfl, rfl⟩⟩
  · rename_i d
    split at h <;> cases h
    exact ⟨_, _, .inr (.inl ⟨d.toNat, by omega, by omega, congrArg Operand.weekdayOf (by omega), rfl, rfl⟩)⟩
  · rename_i a b
    split at h <;> cases h
    exact ⟨_, _, .inr (.inr (.inl ⟨a.toNat, b.toNat, by omega, by omega, by omega, by omega, by omega,
      congrArg₂ Operand.weekdayPair (by omega) (by omega), rfl, rfl⟩))⟩
  · exact ⟨_, _, .inr (.inr (.inr ⟨rfl, rfl, rfl⟩))⟩
  · cases h

theorem alarmDayField_read {p : Bytes} {o : Operand} {fs : List Field} (h : alarmDayField o = .ok fs)
    (hcanon : canonicalOperand o) (hread : ReadsAs p fs) :
    unpackAlarmDay (extBits p 40 7) (payloadBit p 48) = some o := by
  obtain ⟨b5, dom, hform⟩ := alarmDayField_inv h
  obtain ⟨hfields, hb5, hd⟩ := alarmDayField_of_form hform
  cases hfields.symm.trans h
  obtain ⟨hvalue, hrest⟩ := hread.cons_inv hb5
  obtain ⟨hflag, -⟩ := hrest.cons_inv hd
  rw [extBits_one] at hflag
  rw [hvalue, unpackAlarmDay_eq_some_iff hb5, hflag]
  exact ⟨hcanon, hform⟩

/-! ## A slot -/

theorem actionByCode_code : ∀ e ∈ actionTable, actionByCode actionTable e.code.toNat = some e := by decide +kernel

/-- A slot reads back as its action and parameter (rules R104, R191). -/
theorem slotField_read {p : Bytes} {k : Nat} {o : Operand} {fs : List Field} (h : slotField defaults k o = .ok fs)
    (hread : ReadsAs p fs) : unpackSlot defaults p k = some (.slot k, o) := by
  obtain ⟨e, he, rfl⟩ := slotField_inv h
  cases (slotField_slotOperand he k).symm.trans h
  obtain ⟨hcode, hrest⟩ := hread.cons_inv e.1.code.isLt
  obtain ⟨hcount, -⟩ := hrest.cons_inv e.2.isLt
  have haction : actionByCode defaults.actions e.1.code.toNat = some e.1 := actionByCode_code e.1 he
  simp only [unpackSlot, hcode, haction, hcount]
  rfl

/-! ## The layouts of the writable commands -/

theorem unpack_ctrl_of_holds {p : Bytes} {args : Args} (h : Holds defaults .lCtrl p [.enable] args) :
    unpack defaults .lCtrl p = some args := by
  obtain ⟨o, fs, rest, rfl, -, hconv, hread, hrest⟩ := h.cons_inv
  obtain rfl := flagField_read hconv hread
  rw [hrest.nil_inv]
  rfl

theorem unpack_u8_of_holds {p : Bytes} {args : Args} (h : Holds defaults .lU8 p [.delay] args) :
    unpack defaults .lU8 p = some args := by
  obtain ⟨rest, rfl, -, -, hrest⟩ := h.uint_inv 0 255 0 rfl (by decide) (by decide)
  rw [hrest.nil_inv]
  rfl

theorem unpack_duty_of_holds {p : Bytes} {args : Args} (h : Holds defaults .lDuty p [.duty] args) :
    unpack defaults .lDuty p = some (decodedForm .lDuty args) := by
  obtain ⟨o, fs, rest, rfl, -, hconv, hread, hrest⟩ := h.cons_inv
  obtain ⟨v, rfl, htenths⟩ := dutyField_read hconv hread
  rw [hrest.nil_inv, unpack, htenths]
  rfl

theorem unpack_time_of_holds {p : Bytes} {args : Args}
    (h : Holds defaults .lTime p [.second, .minute, .hour, .weekday, .day, .month, .year] args) :
    unpack defaults .lTime p = some args := by
  obtain ⟨_, rfl, -, hsecond, fromMinute⟩ := h.uint_inv 0 59 0 rfl (by decide) (by decide)
  obtain ⟨_, rfl, -, hminute, fromHour⟩ := fromMinute.uint_inv 0 59 0 rfl (by decide) (by decide)
  obtain ⟨_, _, _, rfl, -, hconv, hread, fromWeekday⟩ := fromHour.cons_inv
  obtain ⟨hour, hhour, rfl⟩ := timeHourField_read hconv hread
  obtain ⟨_, rfl, hweekday, hweekday', fromDay⟩ := fromWeekday.uint_inv 1 7 0 rfl (by decide) (by decide)
  obtain ⟨_, rfl, hday, hday', fromMonth⟩ := fromDay.uint_inv 1 31 0 rfl (by decide) (by decide)
  obtain ⟨_, rfl, hmonth, hmonth', fromYear⟩ := fromMonth.uint_inv 1 12 0 rfl (by decide) (by decide)
  obtain ⟨_, rfl, hyear, hyear', hend⟩ := fromYear.uint_inv 2000 2099 2000 rfl (by decide) (by decide)
  rw [hend.nil_inv]
  simp only [unpack, unpackTime, hhour]
  refine congrArg (Option.map timeRecord) (if_pos ?_)
  exact ⟨hsecond, hminute, hweekday, hweekday', hday, hday', hmonth, hmonth', hyear, hyear'⟩

theorem unpack_alarm_of_holds {p : Bytes} {args : Args} (h : Holds defaults .lAlarm p [.second, .minute, .hour, .day] args) :
    unpack defaults .lAlarm p = some args := by
  obtain ⟨_, rfl, -, hsecond, fromMinute⟩ := h.uint_inv 0 59 0 rfl (by decide) (by decide)
  obtain ⟨minute, _, _, rfl, -, hconvMinute, hreadMinute, fromHour⟩ := fromMinute.cons_inv
  obtain ⟨hour, _, _, rfl, hcanonHour, hconvHour, hreadHour, fromDay⟩ := fromHour.cons_inv
  obtain ⟨day, _, _, rfl, hcanonDay, hconvDay, hreadDay, hend⟩ := fromDay.cons_inv
  rw [hend.nil_inv]
  exact unpackAlarm_eq_some_iff.mpr ⟨hsecond, minute, hour, day, alarmMinuteField_read hconvMinute hreadMinute,
    alarmHourField_read hconvHour hcanonHour hreadHour, alarmDayField_read hconvDay hcanonDay hreadDay, rfl⟩

theorem unpackSlots_of_holds {p : Bytes} {ks : List Nat} {args : Args} (h : Holds defaults .lPairs p (ks.map .slot) args) :
    unpackSlots defaults p ks = some args := by
  induction ks generalizing args with
  | nil => rw [h.nil_inv, unpackSlots]
  | cons k ks ih =>
    obtain ⟨o, fs, rest, rfl, -, hconv, hread, hrest⟩ := h.cons_inv
    simp only [unpackSlots, slotField_read hconv hread, ih hrest]

/-- A payload that holds operands of a writable command unpacks to them (rule R152). -/
theorem unpack_of_holds {p : Bytes} {args : Args} :
    ∀ l ∈ [Layout.lCtrl, .lU8, .lPairs, .lDuty, .lTime, .lAlarm], Holds defaults l p (layoutGroups l) args →
      unpack defaults l p = some (decodedForm l args) := by
  simp only [List.forall_mem_cons, List.not_mem_nil, false_imp_iff, implies_true, and_true]
  exact ⟨unpack_ctrl_of_holds, unpack_u8_of_holds, unpackSlots_of_holds (ks := List.range 6), unpack_duty_of_holds,
    unpack_time_of_holds, unpack_alarm_of_holds⟩

end Sys2Proof.Machine
end

section
/-! Encode then decode (rule R152), request by request. -/

namespace Sys2Proof.Machine
open Sys2Proof.Claims Host

/-- `ENC` that answers a frame has converted its operands, and the frame is theirs (rules R140, R271). -/
theorem encRequest_frame_inv {P : Params} {cmd : Byte} {ch wlen : Nat} {nv : Bool} {s : State} {row : CmdRow} {f : Bytes}
    (hrow : lookupRow P.cmdtab cmd ch = some row) (hw : row.wlen = some wlen) (hnv : (nv && !row.nv) = false)
    (hlay : layoutWellFormed row.layout = true) (hres : (encRequest P cmd ch nv s).res = .noError)
    (hval : (encRequest P cmd ch nv s).rval = .frame f) :
    ∃ fs, collect P row.layout s.opArgs true = .ok fs ∧ f = appendCk (insNv row nv (fs.foldl insField (zeros wlen))) := by
  cases hc : collect P row.layout s.opArgs true with
  | error k =>
    rw [encRequest_of_refuses hrow hw hnv hc] at hres
    exact absurd hres (ne_noError_of_isArgumentError (collect_refuses hlay hc))
  | ok fs =>
    rw [encRequest_of_converts hrow hw hnv hc] at hval
    exact ⟨fs, rfl, (RVal.frame.inj hval).symm⟩

/-- The flag of a decoded frame is the one it was encoded with (rule R88). -/
theorem decodeNv_insNv (row : CmdRow) (nv : Bool) {p : Bytes} (hp : p ≠ []) :
    decodeNv row (insNv row nv p) = if row.nv then some nv else none := by
  unfold decodeNv
  split
  · rename_i hnv
    rw [payloadBit_insNv_flag nv hnv hp]
  · rfl

end Sys2Proof.Machine

namespace Sys2Proof.Claims
open Sys2Proof Sys2Proof.Machine Host

/-- The two requests of a codec are `ENC` and `DEC` of one row and one channel (rules R92, R140, R180). -/
def CodecOf (c : Instr × Instr × Bool × CmdRow) (cmd : Byte) (ch : Nat) : Prop :=
  lookupRow defaults.cmdtab cmd ch = some c.2.2.2 ∧ (∀ s, exec c.1 s = .next (encRequest defaults cmd ch c.2.2.1 s)) ∧
    ∀ s, exec c.2.1 s = .next (decRequest defaults cmd ch s)

theorem codecs_codecOf : ∀ c ∈ codecs, ∃ cmd ch, CodecOf c cmd ch := by
  unfold codecs
  simp only [List.forall_mem_cons, List.not_mem_nil, false_imp_iff, implies_true, and_true]
  exact ⟨⟨0x51, 0, rfl, fun _ => rfl, fun _ => rfl⟩, ⟨0x51, 0, rfl, fun _ => rfl, fun _ => rfl⟩,
    ⟨0x62, 0, rfl, fun _ => rfl, fun _ => rfl⟩, ⟨0x6E, 0, rfl, fun _ => rfl, fun _ => rfl⟩,
    ⟨0x6E, 1, rfl, fun _ => rfl, fun _ => rfl⟩, ⟨0x6E, 2, rfl, fun _ => rfl, fun _ => rfl⟩,
    ⟨0x75, 0, rfl, fun _ => rfl, fun _ => rfl⟩, ⟨0x75, 1, rfl, fun _ => rfl, fun _ => rfl⟩,
    ⟨0xB0, 0, rfl, fun _ => rfl, fun _ => rfl⟩, ⟨0xB9, 0, rfl, fun _ => rfl, fun _ => rfl⟩⟩

/-- A codec's payload has the length of its layout both ways (rules R90, R91). -/
theorem codecs_lengths : ∀ c ∈ codecs, c.2.2.2.wlen = some (layoutLen c.2.2.2.layout) ∧
    c.2.2.2.rlen = some (layoutLen c.2.2.2.layout) ∧ 0 < layoutLen c.2.2.2.layout := by decide

/-- A codec's layout is one of the six of the writable commands, and its row takes the flag that it sets (rules R88, R91). -/
theorem codecs_layout : ∀ c ∈ codecs, c.2.2.2.layout ∈ [Layout.lCtrl, .lU8, .lPairs, .lDuty, .lTime, .lAlarm] ∧
    layoutWellFormed c.2.2.2.layout = true ∧ (c.2.2.1 && !c.2.2.2.nv) = false := by decide

theorem codecs_fieldsApart : ∀ c ∈ codecs, FieldsApart c.2.2.2 (layoutLen c.2.2.2.layout) := by
  unfold FieldsApart
  decide

/-- `DEC CHARGING_CONFIG` reads bits 0 and 7 of the control byte only (rules R87, R188). -/
theorem decChargingConfig_of_payload {b : Byte} {u : State} (h : u.opBytes = appendCk [b]) :
    exec .decChargingConfig u =
      .next (answered (.record [(.enable, .bool (b.getLsbD 0))]) (some (b.getLsbD 7)) u) :=
  congrArg Outcome.next (decRequest_of_frame (P := defaults) (cmd := 0x51) (ch := 0) (row := rowChargingConfig) rfl rfl h)

/-- The payload of a frame that a codec's `ENC` answers unpacks to the operands, and keeps the flag (rules R88, R152). -/
theorem dec_of_enc {enc dec : Instr} {nv : Bool} {row : CmdRow} (hc : (enc, dec, nv, row) ∈ codecs) {s t u : State} {f : Bytes}
    (hcanon : CanonicalArgs row.layout s.opArgs) (henc : exec enc s = .next t) (hres : t.res = .noError)
    (hval : t.rval = .frame f) (hu : u.opBytes = f) :
    exec dec u = .next (answered (.record (decodedForm row.layout s.opArgs)) (if row.nv then some nv else none) u) := by
  obtain ⟨cmd, ch, hrow, hexec, hdec⟩ := codecs_codecOf _ hc
  obtain ⟨hw, hr, hpos⟩ := codecs_lengths _ hc
  obtain ⟨hlay, hwf, hnv⟩ := codecs_layout _ hc
  cases (hexec s).symm.trans henc
  obtain ⟨fs, hfs, rfl⟩ := encRequest_frame_inv hrow hw hnv hwf hres hval
  have hunpack := unpack_of_holds _ hlay (holds_of_collect nv (codecs_fieldsApart _ hc) hcanon hfs)
  have hne : fs.foldl insField (zeros (layoutLen row.layout)) ≠ [] := List.length_pos_iff.mp (by simpa using hpos)
  have hlen : row.rlen = some (insNv row nv (fs.foldl insField (zeros (layoutLen row.layout)))).length := by
    simpa [insNv_length] using hr
  rw [hdec, decRequest_of_frame hrow hlen hu, hunpack, decodeNv_insNv _ _ hne]
  rfl

/-- Settles O23: the payload of the frame holds the operands and the flag, so it unpacks to them; a bit that no field owns
makes two frames of one meaning. -/
theorem decodeOfEncodeIsTheOperands : Obligations.DecodeOfEncodeIsTheOperands := by
  refine ⟨fun c hc s t f hcanon henc hres hval u hu => dec_of_enc hc hcanon henc hres hval hu, ?_⟩
  exact ⟨appendCk [0x00], appendCk [0x02], by decide, .record [(.enable, .bool false)], some false,
    fun u => ⟨decChargingConfig_of_payload, decChargingConfig_of_payload⟩⟩

end Sys2Proof.Claims
end

section
/-! `DEC` of any command (rules R180 to R182): the checks on the frame, then what its payload unpacks to, which is also how
`XFER.RD` answers a clean frame (T2c of rule R221). -/

namespace Sys2Proof.Machine
open Sys2Proof.Claims Host

/-! ## The checks on the frame (rules R180, R181) -/

section
variable {P : Params} {cmd : Byte} {ch rlen : Nat} {s : State} {row : CmdRow}

theorem decRequest_of_length_ne (hrow : lookupRow P.cmdtab cmd ch = some row) (hlen : row.rlen = some rlen)
    (h : s.opBytes.length ≠ rlen + 1) : decRequest P cmd ch s = raiseSingle .badArgument s := by
  simp only [decRequest, hrow, hlen, if_pos h]

theorem decRequest_of_corrupt (hrow : lookupRow P.cmdtab cmd ch = some row) (hlen : row.rlen = some rlen)
    (h : s.opBytes.length = rlen + 1) (hv : verifyFrame s.opBytes = false) :
    decRequest P cmd ch s = raiseSingle .dataCorrupted s := by
  simp [decRequest, hrow, hlen, h, hv]

end

/-- A frame that verifies is a payload with its checksum (rules R10, R124). -/
theorem exists_eq_appendCk_of_verifyFrame {f : Bytes} (h : verifyFrame f = true) : ∃ p, f = appendCk p := by
  cases f using List.reverseRecOn with
  | nil => cases h
  | append_singleton p c =>
    rw [verifyFrame_concat, beq_iff_eq] at h
    exact ⟨p, by rw [appendCk, h]⟩

/-! ## The requests of the default table -/

/-- Every `DEC` is the request of one channel of its row (rules R92, R180). -/
theorem decs_served : ∀ d ∈ decs, ∃ cmd ch, lookupRow defaults.cmdtab cmd ch = some d.2 ∧
    ∀ s, exec d.1 s = .next (decRequest defaults cmd ch s) := by
  simp only [decs, List.forall_mem_cons, List.not_mem_nil, false_imp_iff, implies_true, and_true]
  and_intros
  all_goals exact ⟨_, _, rfl, fun _ => rfl⟩

/-- A readable payload is not empty (rule R91). -/
theorem decs_rlen : ∀ d ∈ decs, ∃ rlen, d.2.rlen = some (rlen + 1) := by
  simp only [decs, List.forall_mem_cons, List.not_mem_nil, false_imp_iff, implies_true, and_true]
  and_intros
  all_goals exact ⟨_, rfl⟩

/-- Every `DEC` of a good frame answers what the payload unpacks to, or its row's `unk` (rules R180, R182). -/
theorem exec_dec_of_frame {d : Instr × CmdRow} (hd : d ∈ decs) {s : State} {p : Bytes}
    (hlen : d.2.rlen = some p.length) (hbytes : s.opBytes = appendCk p) :
    exec d.1 s = .next ((unpack defaults d.2.layout p).elim (refusedHere d.2.unk s)
      (fun r => answered (.record r) (decodeNv d.2 p) s)) := by
  obtain ⟨cmd, ch, hrow, hexec⟩ := decs_served _ hd
  rw [hexec, decRequest_of_frame hrow hlen hbytes]

/-- `DEC` of a good frame whose payload is recognised (rule R180). -/
theorem exec_dec_of_unpack {d : Instr × CmdRow} (hd : d ∈ decs) {s : State} {p : Bytes} {r : Args}
    (hlen : d.2.rlen = some p.length) (hbytes : s.opBytes = appendCk p) (h : unpack defaults d.2.layout p = some r) :
    exec d.1 s = .next (answered (.record r) (decodeNv d.2 p) s) := by
  rw [exec_dec_of_frame hd hlen hbytes, h]
  rfl

/-! ## A clean read (T2c of rule R221) -/

section
variable {P : Params} {s : State} {row : CmdRow}

/-- The response of `XFER.RD` is decided by the payload of the frame in `rbuf`, as that of `DEC` is (rules R180, R230). -/
theorem readDecode_of_frame {p : Bytes} (h : s.rbuf = appendCk p) :
    readDecode P row p.length s = goto .done ((unpack P row.layout p).elim (refusedHere row.unk s)
      (fun r => answered (.record r) (decodeNv row p) s)) := by
  have hpay : pay (appendCk p) p.length = p := List.take_left
  simp only [readDecode, h, hpay, decodePayload]
  cases unpack P row.layout p <;> rfl

/-- T2c: a clean frame is loaded and answered from its payload (rules R221, R230). -/
theorem readResult_of_clean_read {p : Bytes} (hmode : s.mode = .rd) :
    readResult P row p.length (some (appendCk p)) s =
      .next (readDecode P row p.length (loadRbuf (appendCk p) (countAttempt s))) := by
  simp [readResult, readClean, verifyFrame_appendCk, hmode]

end

end Sys2Proof.Machine

namespace Sys2Proof.Claims
open Sys2Proof Sys2Proof.Machine Host

/-- Settles O24: the row of every `DEC` gives a length, which is checked first. -/
theorem decChecksLengthThenChecksum : Obligations.DecChecksLengthThenChecksum := by
  intro d hd s
  obtain ⟨cmd, ch, hrow, hexec⟩ := decs_served d hd
  obtain ⟨rlen, hlen⟩ := decs_rlen d hd
  refine ⟨fun hwrong => ?_, fun hright hne hv => ?_⟩
  · have hlength : s.opBytes.length ≠ rlen + 1 + 1 := by
      intro hl
      rcases hwrong with h | h
      · exact h (by rw [hlen, hl]; rfl)
      · simp [h] at hl
    rw [hexec, decRequest_of_length_ne hrow hlen hlength]
    rfl
  · have hlength : s.opBytes.length = rlen + 1 + 1 := by
      have := Option.some.inj (hlen.symm.trans hright)
      omega
    rw [hexec, decRequest_of_corrupt hrow hlen hlength hv]
    rfl

/-- Settles O36: the attempt ends in `readDecode` of the frame's payload, which `DEC` of the same row unpacks too. -/
theorem cleanReadAnswersAsDec : Obligations.CleanReadAnswersAsDec := by
  intro d hd s u f hq hst hmode hlt hrow hlen hv hans hexec
  obtain ⟨p, rfl⟩ := exists_eq_appendCk_of_verifyFrame hv
  have hflen : (appendCk p).length = p.length + 1 := appendCk_length p
  have hrlen : d.2.rlen = some p.length := by rw [hlen, hflen, Nat.add_sub_cancel]
  rw [step_of_readAnswer hq hst hlt hrow hrlen (hflen ▸ hans), readResult_of_clean_read (s := recordCall _ _ s) hmode,
    readDecode_of_frame rfl, ← hflen]
  rw [exec_dec_of_frame hd hrlen rfl] at hexec
  cases hexec
  cases unpack defaults d.2.layout p <;> rfl

end Sys2Proof.Claims
end

section
/-! What a payload's bytes stand for (rules R9, R185 to R192), field by field, and `DEC` of them. -/

namespace Sys2Proof.Machine
open Sys2Proof.Claims Host

/-! ## Fields of bytes -/

/-- A field that lies in one byte is that byte's bits (rule R9). -/
theorem extBits_eq_extractLsb' (p : Bytes) (pos w : Nat) (h : pos % 8 + w ≤ 8) :
    extBits p pos w = ((p.getD (pos / 8) 0).extractLsb' (pos % 8) w).toNat := by
  rw [extBits_byte p pos w h, BitVec.extractLsb'_toNat, Nat.shiftRight_eq_div_pow]

/-- A whole byte of a payload (rule R9). -/
theorem extBits_whole_byte (p : Bytes) (k : Nat) : extBits p (8 * k) 8 = (p.getD k 0).toNat := by
  rw [extBits_byte p (8 * k) 8 (by omega), Nat.mul_div_cancel_left k (by decide), Nat.mul_mod_right, Nat.pow_zero,
    Nat.div_one]
  exact Nat.mod_eq_of_lt (p.getD k 0).isLt

/-- Two bytes are a little-endian 16-bit value (rule R9). -/
theorem extBits_two_bytes (b c : Byte) : extBits [b, c] 0 16 = (c ++ b).toNat := by
  have hsum : extBits [b, c] 0 16 = extBits [b, c] (8 * 0) 8 + extBits [b, c] (8 * 1) 8 * 256 := extBits_add _ 0 8 8
  rw [hsum, extBits_whole_byte, extBits_whole_byte, BitVec.toNat_append, ← Nat.shiftLeft_add_eq_or_of_lt b.isLt]
  simp [Nat.shiftLeft_eq, Nat.add_comm]

/-- The two's-complement reading of a bit vector's value (rule R8). -/
theorem sext_toNat {n : Nat} (x : BitVec n) : sext n x.toNat = x.toInt := by
  simp [sext, BitVec.toInt_eq_msb_cond, BitVec.msb_eq_getLsbD_last, BitVec.testBit_toNat]

/-! ## The status byte and the numbers (rules R185 to R190) -/

/-- Every pattern of the status byte is recognised (rules R94, R185). -/
theorem unpackStatus_byte (b : Byte) : unpackStatus [b] =
    [(.fault, .bool (b.getLsbD 0)), (.button, .bool (b.getLsbD 1)),
     (.battery, .battery (batteryOf (b.extractLsb' 2 2).toNat)),
     (.primaryInput, .input (inputOf (b.extractLsb' 4 2).toNat)),
     (.secondaryInput, .input (inputOf (b.extractLsb' 6 2).toNat))] := by
  rw [unpackStatus, extBits_eq_extractLsb' _ 2 2 (by decide), extBits_eq_extractLsb' _ 4 2 (by decide),
    extBits_eq_extractLsb' _ 6 2 (by decide)]
  rfl

/-- The raw duty is byte 0 and the two low bits of byte 1 (rules R99, R190). -/
theorem extBits_duty (b c : Byte) : extBits [b, c] 0 10 = b.toNat + 256 * (c.toNat % 4) := by
  have hsum : extBits [b, c] 0 10 = extBits [b, c] (8 * 0) 8 + extBits [b, c] 8 2 * 256 := extBits_add _ 0 8 2
  rw [hsum, extBits_whole_byte, extBits_byte _ 8 2 (by decide)]
  simp [Nat.mul_comm]

/-! ## The slots (rules R102, R104, R191) -/

/-- The operand of a slot with the action `e` and the parameter byte after its code (rule R104). -/
def slotRead (p : Bytes) (e : ActionEntry × Nat) : Group × Operand :=
  (.slot e.2, .action e.1.name (((p.getD (2 * e.2 + 1) 0).toNat * e.1.scale : Nat) : Int))

theorem extBits_slot_code (p : Bytes) (k : Nat) : extBits p (16 * k) 8 = (p.getD (2 * k) 0).toNat := by
  rw [← extBits_whole_byte, ← Nat.mul_assoc]

theorem extBits_slot_param (p : Bytes) (k : Nat) : extBits p (16 * k + 8) 8 = (p.getD (2 * k + 1) 0).toNat := by
  rw [← extBits_whole_byte, Nat.mul_add, ← Nat.mul_assoc]

theorem unpackSlot_of_known {p : Bytes} {k : Nat} {e : ActionEntry} (he : e ∈ actionTable) (hcode : p[2 * k]? = some e.code) :
    unpackSlot defaults p k = some (slotRead p (e, k)) := by
  have haction : actionByCode defaults.actions (extBits p (16 * k) 8) = some e := by
    rw [extBits_slot_code, List.getD_eq_getElem?_getD, hcode]
    exact actionByCode_code e he
  simp only [unpackSlot, haction, extBits_slot_param]
  rfl

theorem unpackSlot_of_unknown {p : Bytes} {k : Nat} (hk : 2 * k < p.length) (h : ∀ e ∈ actionTable, some e.code ≠ p[2 * k]?) :
    unpackSlot defaults p k = none := by
  have haction : actionByCode defaults.actions (extBits p (16 * k) 8) = none := by
    rw [extBits_slot_code, List.getD_eq_getElem?_getD]
    refine List.find?_eq_none.mpr fun e he hcode => h e he ?_
    rw [List.getElem?_eq_getElem hk] at hcode ⊢
    exact congrArg some (BitVec.eq_of_toNat_eq (eq_of_beq hcode))
  simp only [unpackSlot, haction]

/-- Known codes in every slot are decoded slot by slot (rule R191). -/
theorem unpackSlots_of_known {p : Bytes} {es : List ActionEntry} {n : Nat} (hknown : ∀ e ∈ es, e ∈ actionTable)
    (hcodes : ∀ k < es.length, (es.map (·.code))[k]? = p[2 * (n + k)]?) :
    unpackSlots defaults p (List.range' n es.length) = some ((es.zipIdx n).map (slotRead p)) := by
  induction es generalizing n with
  | nil => rfl
  | cons e es ih =>
    obtain ⟨he, hes⟩ := List.forall_mem_cons.mp hknown
    have hfirst : unpackSlot defaults p n = some (slotRead p (e, n)) :=
      unpackSlot_of_known he (hcodes 0 (Nat.zero_lt_succ _)).symm
    have hrest : unpackSlots defaults p (List.range' (n + 1) es.length) = some ((es.zipIdx (n + 1)).map (slotRead p)) := by
      refine ih hes fun k hk => ?_
      have hnext := hcodes (k + 1) (Nat.succ_lt_succ hk)
      rwa [← Nat.add_assoc, Nat.add_right_comm] at hnext
    rw [List.length_cons, List.range'_succ, List.zipIdx_cons, List.map_cons]
    simp only [unpackSlots, hfirst, hrest]

/-- One unknown code fails the whole decode (rule R191). -/
theorem unpackSlots_eq_none {P : Params} {p : Bytes} {ks : List Nat} {k : Nat} (hk : k ∈ ks) (h : unpackSlot P p k = none) :
    unpackSlots P p ks = none := by
  induction ks with
  | nil => cases hk
  | cons j ks ih =>
    rcases List.mem_cons.mp hk with rfl | hk
    · simp only [unpackSlots, h]
    · rw [unpackSlots, ih hk]
      cases unpackSlot P p j <;> rfl

/-! ## The seven bytes of a time (rules R100, R192) -/

/-- An hour of the mode that the 12-hour flag names (rule R100). -/
def timeHourOf (n : Nat) (pm m12 : Bool) : HourT := if m12 then (if pm then .pm n else .am n) else .h24 n

theorem hourOperand_timeHourOf (n : Nat) (pm m12 : Bool) :
    hourOperand (timeHourOf n pm m12) = if m12 then (if pm then .pm n else .am n) else .h24 n := by
  cases m12 <;> cases pm <;> rfl

/-- An hour number is recognised in the range of its mode, a 24-hour one without the PM flag (rules R100, R192). -/
theorem unpackTimeHour_eq (n : Nat) (pm m12 : Bool) : unpackTimeHour n pm m12 =
    if (if m12 then 1 ≤ n ∧ n ≤ 12 else n ≤ 23 ∧ pm = false) then some (timeHourOf n pm m12) else none := by
  cases m12 <;> rfl

/-- The fields of a time's payload, read off its bytes (rules R9, R100). -/
theorem timeFields_of_bytes (b0 b1 b2 b3 b4 b5 b6 : Byte) :
    extBits [b0, b1, b2, b3, b4, b5, b6] 0 6 = b0.toNat % 64 ∧ extBits [b0, b1, b2, b3, b4, b5, b6] 8 6 = b1.toNat % 64 ∧
    extBits [b0, b1, b2, b3, b4, b5, b6] 16 5 = b2.toNat % 32 ∧ extBits [b0, b1, b2, b3, b4, b5, b6] 24 3 = b3.toNat % 8 ∧
    extBits [b0, b1, b2, b3, b4, b5, b6] 32 5 = b4.toNat % 32 ∧ extBits [b0, b1, b2, b3, b4, b5, b6] 40 4 = b5.toNat % 16 ∧
    extBits [b0, b1, b2, b3, b4, b5, b6] 48 7 = b6.toNat % 128 := by
  simp [extBits_byte]

/-- Seven bytes are recognised exactly when every field is in range; a weekday or a day is never too large for its field, and a
year counts from 2000 (rules R100, R192). -/
theorem unpackTime_bytes (b0 b1 b2 b3 b4 b5 b6 : Byte) :
    unpackTime defaults [b0, b1, b2, b3, b4, b5, b6] =
      if b0.toNat % 64 ≤ 59 ∧ b1.toNat % 64 ≤ 59 ∧
          (if b2.getLsbD 6 then 1 ≤ b2.toNat % 32 ∧ b2.toNat % 32 ≤ 12
           else b2.toNat % 32 ≤ 23 ∧ b2.getLsbD 5 = false) ∧
          1 ≤ b3.toNat % 8 ∧ 1 ≤ b4.toNat % 32 ∧ 1 ≤ b5.toNat % 16 ∧ b5.toNat % 16 ≤ 12 ∧ b6.toNat % 128 ≤ 99 then
        some ⟨b0.toNat % 64, b1.toNat % 64, timeHourOf (b2.toNat % 32) (b2.getLsbD 5) (b2.getLsbD 6), b3.toNat % 8,
          b4.toNat % 32, b5.toNat % 16, b6.toNat % 128 + 2000⟩
      else none := by
  obtain ⟨hsecond, hminute, hhour, hweekday, hday, hmonth, hyear⟩ := timeFields_of_bytes b0 b1 b2 b3 b4 b5 b6
  have hpm : payloadBit [b0, b1, b2, b3, b4, b5, b6] 21 = b2.getLsbD 5 := rfl
  have hm12 : payloadBit [b0, b1, b2, b3, b4, b5, b6] 22 = b2.getLsbD 6 := rfl
  obtain ⟨hbase, hmin, hmax⟩ : defaults.yearBase = 2000 ∧ defaults.yearMin = 2000 ∧ defaults.yearMax = 2099 :=
    ⟨rfl, rfl, rfl⟩
  simp only [unpackTime, hsecond, hminute, hhour, hweekday, hday, hmonth, hyear, hpm, hm12, unpackTimeHour_eq, hbase, hmin,
    hmax]
  by_cases hr : if b2.getLsbD 6 then 1 ≤ b2.toNat % 32 ∧ b2.toNat % 32 ≤ 12
    else b2.toNat % 32 ≤ 23 ∧ b2.getLsbD 5 = false
  · simp only [hr, true_and]
    refine if_congr ?_ rfl rfl
    omega
  · simp only [hr, false_and, and_false, if_false]

end Sys2Proof.Machine
end

section
namespace Sys2Proof.Claims
open Sys2Proof Sys2Proof.Machine Host

/-- Settles O25: each frame is a payload with its checksum, and each payload is one field or one number. -/
theorem decStatusAndNumericFields : Obligations.DecStatusAndNumericFields := by
  intro s b c
  refine ⟨fun h => ⟨?_, ?_, ?_, ?_⟩, fun h => ?_⟩
  · exact exec_dec_of_unpack (d := (.decStatus, rowStatus)) (by decide) (p := [b]) rfl h
      (congrArg some (unpackStatus_byte b))
  · have hvalue : sext 8 (extBits [b] (8 * 0) 8) = b.toInt :=
      (congrArg (sext 8) (extBits_whole_byte [b] 0)).trans (sext_toNat b)
    exact exec_dec_of_unpack (d := (.decBatteryTemperature, rowBatteryTemperature)) (by decide) (p := [b]) rfl h
      (congrArg (fun v => some [(Group.temperature, Operand.int v)]) hvalue)
  · exact exec_dec_of_unpack (d := (.decPowerOff, rowPowerOff)) (by decide) (p := [b]) rfl h
      (congrArg (fun v : Nat => some [(Group.delay, Operand.int v)]) (extBits_whole_byte [b] 0))
  · exact decChargingConfig_of_payload h
  · have hvalue : sext 16 (extBits [b, c] 0 16) = (c ++ b).toInt :=
      (congrArg (sext 16) (extBits_two_bytes b c)).trans (sext_toNat (c ++ b))
    exact exec_dec_of_unpack (d := (.decIoCurrent, rowIoCurrent)) (by decide) (p := [b, c]) rfl h
      (congrArg (fun v => some [(Group.value, Operand.int v)]) hvalue)

/-- The channels of `DEC PWM_DUTY` have one row (rule R92). -/
theorem decPwmDuty_mem : ∀ i ∈ [Instr.decPwmDuty1, Instr.decPwmDuty2], (i, rowPwmDuty) ∈ decs := by decide

/-- Settles O26: both channels unpack the ten raw bits, which are byte 0 and the two low bits of byte 1. -/
theorem decPwmDutyTenths : Obligations.DecPwmDutyTenths := by
  intro s b c hbytes i hi
  refine exec_dec_of_unpack (decPwmDuty_mem i hi) (p := [b, c]) rfl hbytes ?_
  change some [(Group.duty, Operand.int (dutyTenths (extBits [b, c] 0 10) : Nat))] = _
  rw [extBits_duty]
  rfl

/-- The channels of `DEC BUTTON_CONFIG` have one row (rule R92). -/
theorem decButtonConfig_mem : ∀ i ∈ [Instr.decButtonConfigSw1, Instr.decButtonConfigSw2, Instr.decButtonConfigSw3],
    (i, rowButtonConfig) ∈ decs := by decide

/-- Settles O27: the six slots are decoded one by one, and one that is not known fails them all. -/
theorem decButtonConfigSlots : Obligations.DecButtonConfigSlots := by
  intro s p hp hbytes i hi
  have hd := decButtonConfig_mem i hi
  have hlen : rowButtonConfig.rlen = some p.length := congrArg some hp.symm
  refine ⟨fun es hes hknown hcodes => ?_, fun ⟨k, hk, hunknown⟩ => ?_⟩
  · have hunpack := unpackSlots_of_known (n := 0) hknown (p := p) (by simpa [hes] using hcodes)
    rw [hes] at hunpack
    exact exec_dec_of_unpack hd hlen hbytes hunpack
  · have hslot : unpackSlot defaults p k = none := unpackSlot_of_unknown (by omega) hunknown
    have hunpack : unpack defaults rowButtonConfig.layout p = none :=
      unpackSlots_eq_none (ks := List.range 6) (List.mem_range.mpr hk) hslot
    rw [exec_dec_of_frame hd hlen hbytes, hunpack]
    rfl

/-- Settles O28: the fields are read off the seven bytes, and `DEC` answers them or `UnknownData` as they are in range. -/
theorem decRtcTimeFields : Obligations.DecRtcTimeFields := by
  intro s b0 b1 b2 b3 b4 b5 b6 hbytes
  have hdec : exec .decRtcTime s = .next (((unpackTime defaults [b0, b1, b2, b3, b4, b5, b6]).map timeRecord).elim
      (refusedHere .unknownData s) (fun r => answered (.record r) none s)) :=
    exec_dec_of_frame (d := (.decRtcTime, rowRtcTime)) (by decide) rfl hbytes
  rw [hdec, unpackTime_bytes, ← hourOperand_timeHourOf]
  exact congrArg Outcome.next (apply_ite (fun t => (Option.map timeRecord t).elim _ _) _ _ _)

end Sys2Proof.Claims
end

section
/-! The step of an undisturbed engine, state by state (rules R220, R221): the transitions T1 to T8, each from its own
premises. -/

namespace Sys2Proof.Machine
open Host

section
variable {P : Params} {s : State}

theorem step_of_rdTry (hq : Claims.Quiet s) (hst : s.st = .rdTry) : step s = rdTryStep defaults s := by
  simp [step_of_quiet hq, fsmStep, hst]

theorem step_of_rdWait (hq : Claims.Quiet s) (hst : s.st = .rdWait) : step s = .next (rdWaitStep s) := by
  simp [step_of_quiet hq, fsmStep, hst]

theorem step_of_wrTry (hq : Claims.Quiet s) (hst : s.st = .wrTry) : step s = wrTryStep defaults s := by
  simp [step_of_quiet hq, fsmStep, hst]

theorem step_of_wrWait (hq : Claims.Quiet s) (hst : s.st = .wrWait) : step s = .next (wrWaitStep s) := by
  simp [step_of_quiet hq, fsmStep, hst]

theorem step_of_cmp (hq : Claims.Quiet s) (hst : s.st = .cmp) : step s = cmpStep defaults s := by
  simp [step_of_quiet hq, fsmStep, hst]

theorem step_of_done (hq : Claims.Quiet s) (hst : s.st = .done) : step s = .next (doneStep s) := by
  simp [step_of_quiet hq, fsmStep, hst]

theorem step_of_no_request (hq : Claims.Quiet s) (hst : s.st = .idle) (hreqs : s.reqs = []) : step s = .next s := by
  obtain ⟨hrst, hcfg⟩ := hq
  simp [step, idleStep, fetch, hrst, hcfg, hst, hreqs]

/-! ## The end of the attempts (T1, T4) -/

theorem rdTryStep_of_exhausted (h : s.tries = s.n) :
    rdTryStep P s = .next (raiseMulti (exhaustKind s.lastfail) s) := if_pos h

theorem wrTryStep_of_exhausted (h : s.tries = s.n) : wrTryStep P s = .next (raiseMulti .communicationError s) := if_pos h

theorem wrTryStep_of_lt (h : s.tries < s.n) : wrTryStep P s = writeAttempt P s := by
  rw [wrTryStep, if_neg (BitVec.ne_of_lt h), if_pos h]

theorem exhaustKind_eq (k : FailKind) :
    exhaustKind k = if k = .corrupt then .dataCorrupted else .communicationError := by cases k <;> rfl

/-! ## A call that never returns (rule R312 c) -/

theorem readAttempt_of_never {row : CmdRow} {rlen : Nat} (hrow : rowOf P.cmdtab s.cmdr = some row)
    (hlen : row.rlen = some rlen) (h : (nextOverride s).rule = .never) : readAttempt P s = .next s := by
  simp only [readAttempt, hrow, hlen, memRead_none.mpr h]

theorem writeAttempt_of_never (h : (nextOverride s).rule = .never) : writeAttempt P s = .next s := by
  simp only [writeAttempt, memWrite_none.mpr h]

/-! ## A clean frame (T2d, T2e) -/

/-- The step of a read attempt that a clean frame answers: the frame is loaded and the attempt counted (rules R54, R221). -/
theorem step_of_cleanRead {row : CmdRow} {rlen : Nat} {f : Bytes} (hq : Claims.Quiet s) (hst : s.st = .rdTry)
    (hlt : s.tries < s.n) (hrow : rowOf cmdtab s.cmdr = some row) (hlen : row.rlen = some rlen) (hflen : f.length = rlen + 1)
    (hv : verifyFrame f = true) (h : readAnswer defaults s.cmdr (rlen + 1) s = some (some f)) :
    step s = readClean defaults row rlen (loadRbuf f (countAttempt
      (recordCall (.read s.cfgBus s.cfgAddr s.cmdr (rlen + 1)) (devBefore defaults s) s))) := by
  rw [step_of_readAnswer hq hst hlt hrow hlen h]
  simp [readResult, hflen, hv]

theorem readClean_of_preRead {row : CmdRow} {rlen : Nat} (hmode : s.mode = .rmw) (hphase : s.phase = .pre) :
    readClean P row rlen s = readMerge P row rlen s := by
  simp only [readClean, hmode, hphase]

theorem readClean_of_readBack {row : CmdRow} {rlen : Nat} (hmode : s.mode = .wrv ∨ s.mode = .rmw) (hphase : s.phase = .back) :
    readClean P row rlen s = .next (goto .cmp s) := by
  rcases hmode with hm | hm <;> simp only [readClean, hm, hphase]

theorem mergeFrame_of_converts {row : CmdRow} {args : Args} {fs : List Field} (h : collect P row.layout args false = .ok fs)
    (base : Bytes) (nv : Bool) : mergeFrame P row base nv args = .ok (appendCk (insNv row nv (fs.foldl insField base))) := by
  simp only [mergeFrame, pack, h]

theorem readMerge_of_converts {row : CmdRow} {rlen : Nat} {fs : List Field} (h : collect P row.layout s.argr false = .ok fs) :
    readMerge P row rlen s = .next (goto .wrTry (startPhase .write
      (loadWbuf (appendCk (insNv row s.nvr (fs.foldl insField (pay s.rbuf rlen)))) s))) := by
  simp only [readMerge, mergeFrame_of_converts h]

/-! ## A returned write (T5a, T5b, T5c) -/

theorem memWrite_of_answer {reg : Byte} {f : Bytes} {ok : Bool} {d : Dev} (h : writeAnswer P reg f s = some (ok, d)) :
    memWrite P reg f s = some (ok, recordCall (.write s.cfgBus s.cfgAddr reg f) d s) := by
  simp only [memWrite, h]

/-- The step of a write attempt whose call returns (rules R221, R231). -/
theorem step_of_writeAnswer {ok : Bool} {d : Dev} (hq : Claims.Quiet s) (hst : s.st = .wrTry) (hlt : s.tries < s.n)
    (h : writeAnswer defaults s.cmdr (writeFrame s) s = some (ok, d)) :
    step s = bif ok then writeDone (recordCall (.write s.cfgBus s.cfgAddr s.cmdr (writeFrame s)) d s)
      else .next (goto .wrWait (countAttempt (recordCall (.write s.cfgBus s.cfgAddr s.cmdr (writeFrame s)) d s))) := by
  rw [step_of_wrTry hq hst, wrTryStep_of_lt hlt]
  cases ok <;> simp only [writeAttempt, memWrite_of_answer h, cond_true, cond_false]

theorem writeDone_of_wr (h : s.mode = .wr) : writeDone s = .next (goto .done (respond .unit none (countAttempt s))) := by
  simp only [writeDone, h]

theorem writeDone_of_verified (h : s.mode = .wrv ∨ s.mode = .rmw) :
    writeDone s = .next (goto .rdTry (passTime Config.settle (setLastfail .comm (startPhase .back s)))) := by
  rcases h with h | h <;> simp only [writeDone, h]

/-! ## The comparison (T7) -/

theorem cmpStep_of_row {row : CmdRow} {c : Comparator} {wlen rlen : Nat} (hrow : rowOf P.cmdtab s.cmdr = some row)
    (hc : row.verify = some c) (hw : row.wlen = some wlen) (hr : row.rlen = some rlen) :
    cmpStep P s = .next (if verifyMatch P Config.clockTol c (pay s.wbuf wlen) (pay s.rbuf rlen) then
      goto .done (respond .unit none s) else raiseMulti .writeFailed (setRval .unit s)) := by
  simp only [cmpStep, hrow, hc, hw, hr]
  split <;> rfl

end

end Sys2Proof.Machine

namespace Sys2Proof.Claims
open Sys2Proof Sys2Proof.Machine Host

/-- Settles O34: in a `TRY` state the count of attempts is looked at before a call is made. -/
theorem exhaustedPhaseGivesUp : Obligations.ExhaustedPhaseGivesUp := by
  refine fun s hq he => ⟨fun hst => ?_, fun hst => ?_⟩
  · rw [step_of_rdTry hq hst, rdTryStep_of_exhausted he, exhaustKind_eq]
    rfl
  · rw [step_of_wrTry hq hst, wrTryStep_of_exhausted he]
    rfl

/-- Settles O37: the clean frame is loaded, and the latched operands convert, so the merge gives the frame to write. -/
theorem cleanPreReadIsMerged : Obligations.CleanPreReadIsMerged := by
  intro s row rlen f fs hq hst hmode hphase hlt hrow hlen hflen hv hans hfs
  have hglen : (appendCk (insNv row s.nvr (fs.foldl insField (f.take rlen)))).length = rlen + 1 := by
    simp [insNv_length, hflen]
  rw [step_of_cleanRead hq hst hlt hrow hlen hflen hv hans,
    readClean_of_preRead (s := loadRbuf f (countAttempt (recordCall _ _ s))) hmode hphase,
    readMerge_of_converts (s := loadRbuf f (countAttempt (recordCall _ _ s))) hfs]
  simp only [loadWbuf, loadRbuf, recordCall_nvr, countAttempt_nvr, pay, hflen, hglen]
  rfl

/-- Settles O39: the clean frame is loaded, and in the phase `back` it is the frame to compare. -/
theorem cleanReadBackIsCompared : Obligations.CleanReadBackIsCompared := by
  intro s row rlen f hq hst hmode hphase hlt hrow hlen hflen hv hans
  rw [step_of_cleanRead hq hst hlt hrow hlen hflen hv hans,
    readClean_of_readBack (s := loadRbuf f (countAttempt (recordCall _ _ s))) hmode hphase, ← hflen]
  rfl

/-- Settles O40: the step is what the answer makes of the attempt, an `ok` according to the operation. -/
theorem writeAttempt : Obligations.WriteAttempt := by
  intro s ok d hq hst hlt hans
  have hstep := step_of_writeAnswer hq hst hlt hans
  refine ⟨?_, ?_, ?_⟩
  · rintro rfl
    exact hstep
  · rintro rfl hmode
    exact hstep.trans (writeDone_of_wr hmode)
  · rintro rfl hmode
    exact hstep.trans (writeDone_of_verified hmode)

/-- Settles O41: a wait passes its delay and goes back. -/
theorem waitsChangeNoRegister : Obligations.WaitsChangeNoRegister :=
  fun _ hq => ⟨fun hst => step_of_rdWait hq hst, fun hst => step_of_wrWait hq hst⟩

/-- Settles O42: the row gives the comparator and the lengths of the two payloads. -/
theorem compareDecides : Obligations.CompareDecides := fun _ _ _ _ hq hst hrow hc hw hr =>
  (step_of_cmp hq hst).trans (cmpStep_of_row hrow hc hw hr)

/-- Settles O45: without a request, without a requester that takes the response, or without an answer to its call, the engine
has nothing to do. -/
theorem engineWaitsAndResponseIsTaken : Obligations.EngineWaitsAndResponseIsTaken := by
  refine fun s hq => ⟨step_of_no_request hq, step_of_done hq, fun row rlen hst hlt hnever => ?_⟩
  rcases hst with hst | ⟨hst, hrow, hlen⟩
  · rw [step_of_wrTry hq hst, wrTryStep_of_lt hlt, writeAttempt_of_never hnever]
  · rw [step_of_rdTry hq hst, rdTryStep_of_lt hlt, readAttempt_of_never hrow hlen hnever]

end Sys2Proof.Claims
end

section
/-! The comparators of a read-back (rules R240 to R243): the bits under a mask, and the clock a little ahead. -/

namespace Sys2Proof.Machine

/-! ## The mask (rule R241) -/

theorem vmaskMatch_iff {m w r : Bytes} :
    vmaskMatch m w r = true ↔ ∀ k < w.length, (w.getD k 0 ^^^ r.getD k 0) &&& m.getD k 0 = 0 := by
  simp [vmaskMatch]

/-- Two bytes agree under a mask when no bit of the mask differs. -/
theorem xor_and_eq_zero_iff (x y m : Byte) :
    (x ^^^ y) &&& m = 0 ↔ ∀ i < 8, m.getLsbD i = true → x.getLsbD i = y.getLsbD i := by
  rw [BitVec.eq_of_getLsbD_eq_iff]
  refine forall₂_congr fun i _ => ?_
  cases hx : x.getLsbD i <;> cases hy : y.getLsbD i <;> simp [hx, hy]

/-- The bits of `n` bytes, byte by byte (rule R9). -/
theorem forall_payloadBit_iff (n : Nat) (q : Nat → Nat → Prop) :
    (∀ b < 8 * n, q (b / 8) (b % 8)) ↔ ∀ k < n, ∀ i < 8, q k i := by
  refine ⟨fun h k hk i hi => ?_, fun h b hb => h _ (by omega) _ (by omega)⟩
  have hb := h (8 * k + i) (by omega)
  rwa [show (8 * k + i) / 8 = k by omega, show (8 * k + i) % 8 = i by omega] at hb

/-- The mask compares the payload bits that are set in it. -/
theorem vmaskMatch_iff_payloadBit {m w r : Bytes} :
    vmaskMatch m w r = true ↔ ∀ b < 8 * w.length, payloadBit m b = true → payloadBit w b = payloadBit r b := by
  simp only [vmaskMatch_iff, xor_and_eq_zero_iff, payloadBit]
  exact (forall_payloadBit_iff w.length fun k i =>
    (m.getD k 0).getLsbD i = true → (w.getD k 0).getLsbD i = (r.getD k 0).getLsbD i).symm

/-- Under the mask of all ones every byte is compared whole. -/
theorem vmaskMatch_allOnes_iff {w r : Bytes} (hlen : w.length = r.length) :
    vmaskMatch (List.replicate w.length 0xFF) w r = true ↔ w = r := by
  refine vmaskMatch_iff.trans ⟨fun h => List.ext_getElem hlen fun k hw hr => ?_, fun h k _ => by simp [h]⟩
  have hk : (w[k] ^^^ r[k]) &&& BitVec.allOnes 8 = 0 := by simpa [hw, hr] using h k hw
  exact BitVec.xor_eq_zero_iff.mp (BitVec.and_allOnes.symm.trans hk)

/-! ## The clock (rules R242, R243) -/

/-- The hours `ha` and `hb` that two hour bytes of one mode stand for: 12 AM is hour 0 and 12 PM is hour 12. -/
def HoursOf (x y : HourT) (ha hb : Nat) : Prop :=
  (x = .h24 ha ∧ y = .h24 hb) ∨
  ((∃ h, (x = .am h ∧ ha = h % 12) ∨ (x = .pm h ∧ ha = h % 12 + 12)) ∧
   (∃ h, (y = .am h ∧ hb = h % 12) ∨ (y = .pm h ∧ hb = h % 12 + 12)))

theorem hoursOf_iff {x y : HourT} {ha hb : Nat} :
    HoursOf x y ha hb ↔ sameHourMode x y = true ∧ hour24 x = ha ∧ hour24 y = hb := by
  unfold HoursOf
  cases x <;> cases y <;> simp [sameHourMode, hour24, eq_comm]

theorem timeFwdVals_iff {tol : Nat} {a b : TimeVal} :
    timeFwdVals tol a b = true ↔
      a.weekday = b.weekday ∧ a.day = b.day ∧ a.month = b.month ∧ a.year = b.year ∧ sameHourMode a.hour b.hour = true ∧
        timeOfDay a ≤ timeOfDay b ∧ timeOfDay b ≤ timeOfDay a + tol := by
  have hint : (0 ≤ (timeOfDay b : Int) - timeOfDay a ∧ (timeOfDay b : Int) - timeOfDay a ≤ tol) ↔
      timeOfDay a ≤ timeOfDay b ∧ timeOfDay b ≤ timeOfDay a + tol := by omega
  simp only [timeFwdVals, Bool.and_eq_true, beq_iff_eq, decide_eq_true_eq, hint, and_assoc]

theorem timeFwdMatch_of_times {P : Params} {tol : Nat} {w r : Bytes} {a b : TimeVal} (hw : unpackTime P w = some a)
    (hr : unpackTime P r = some b) : timeFwdMatch P tol w r = timeFwdVals tol a b := by
  simp only [timeFwdMatch, hw, hr]

theorem timeFwdMatch_of_no_time {P : Params} {w r : Bytes} (h : unpackTime P w = none ∨ unpackTime P r = none) (tol : Nat) :
    timeFwdMatch P tol w r = false := by
  unfold timeFwdMatch
  split
  · rename_i hw hr
    simp [hw, hr] at h
  · rfl

end Sys2Proof.Machine

namespace Sys2Proof.Claims
open Sys2Proof Sys2Proof.Machine Host

/-- Settles O43: the mask is applied byte by byte, and the bits of a byte are payload bits. -/
theorem maskedComparator : Obligations.MaskedComparator := by
  refine fun m w r hlen _ => ⟨vmaskMatch_iff_payloadBit, ?_⟩
  rintro rfl
  exact vmaskMatch_allOnes_iff hlen

/-- Settles O44: the hours of one mode are those of `hour24`, so the two inequalities are those of the times of day. -/
theorem clockComparator : Obligations.ClockComparator := by
  refine fun w r tol => ⟨fun h => timeFwdMatch_of_no_time h tol, fun a b hw hr => ?_⟩
  rw [verifyMatch, timeFwdMatch_of_times hw hr, timeFwdVals_iff]
  refine and_congr_right' (and_congr_right' (and_congr_right' (and_congr_right' ⟨fun ⟨hmode, htimes⟩ => ?_, ?_⟩)))
  · exact ⟨_, _, hoursOf_iff.mpr ⟨hmode, rfl, rfl⟩, htimes⟩
  · rintro ⟨ha, hb, hhours, htimes⟩
    obtain ⟨hmode, rfl, rfl⟩ := hoursOf_iff.mp hhours
    exact ⟨hmode, htimes⟩

end Sys2Proof.Claims
end

section
/-! Where a transition leads and what it leaves to the requester (rules R220, R221, R244 to R246, R310). -/

namespace Sys2Proof.Machine
open Host

/-! ## The states of the engine -/

/-- The states that the lines T1 to T8 of rule R221 give after a state, with the state itself where the engine can wait. -/
def leadsTo : FsmState → List FsmState
  | .idle => [.idle]
  | .rdTry => [.rdTry, .rdWait, .wrTry, .cmp, .done]
  | .rdWait => [.rdTry]
  | .wrTry => [.wrTry, .wrWait, .rdTry, .done]
  | .wrWait => [.wrTry]
  | .cmp => [.done]
  | .done => [.done, .idle]

/-- The ports that belong to the requester: no transition of rule R221 writes them. -/
structure KeepsPorts (s t : State) : Prop where
  reqs_eq : t.reqs = s.reqs
  opN_eq : t.opN = s.opN
  opArgs_eq : t.opArgs = s.opArgs
  opBytes_eq : t.opBytes = s.opBytes
  cfgPort_eq : t.cfgPort = s.cfgPort
  rst_eq : t.rst = s.rst

section
variable {P : Params} {s s' t : State}

@[simp] theorem readFailed_st (k : FailKind) : (readFailed k s).st = .rdWait := rfl

@[simp] theorem rdWaitStep_st : (rdWaitStep s).st = .rdTry := rfl

@[simp] theorem wrWaitStep_st : (wrWaitStep s).st = .wrTry := rfl

@[simp] theorem readDecode_st (row : CmdRow) (rlen : Nat) : (readDecode P row rlen s).st = .done := by
  rcases readDecode_spec P row rlen s with ⟨v, nv, he⟩ | ⟨k, he⟩ <;> rw [he] <;> rfl

/-- A transition leads from a state to one of those that rule R221 gives after it. -/
theorem transition_st (h : Transition P s t) : t.st ∈ leadsTo s.st := by
  cases h <;> simp [leadsTo, *]

/-- A read leads to a write only where it is the pre-read of a modify (T2d). -/
theorem preRead_of_transition (h : Transition P s t) (hst : s.st = .rdTry) (ht : t.st = .wrTry) :
    s.mode = .rmw ∧ s.phase = .pre := by
  cases h with
  | t2d row rlen f g s' _ _ _ _ _ _ _ hmode hphase => exact ⟨hmode, hphase⟩
  | _ => simp_all

theorem keepsPorts_memRead {reg : Byte} {len : Nat} {a : Option Bytes} (h : memRead P reg len s = some (a, s')) :
    KeepsPorts s s' := by
  obtain ⟨-, rfl⟩ := memRead_spec h
  exact ⟨rfl, rfl, rfl, rfl, rfl, rfl⟩

theorem keepsPorts_memWrite {reg : Byte} {f : Bytes} {ok : Bool} (h : memWrite P reg f s = some (ok, s')) :
    KeepsPorts s s' := by
  obtain ⟨d, -, rfl⟩ := memWrite_spec h
  exact ⟨rfl, rfl, rfl, rfl, rfl, rfl⟩

/-- The decode step answers on the response registers (rule R230). -/
theorem keepsPorts_readDecode (h : KeepsPorts s s') (row : CmdRow) (rlen : Nat) :
    KeepsPorts s (readDecode P row rlen s') := by
  rcases readDecode_spec P row rlen s' with ⟨v, nv, he⟩ | ⟨k, he⟩ <;> rw [he] <;> exact { h with }

/-- Requests wait while the engine is busy (rules R220, R310). -/
theorem transition_keepsPorts (h : Transition P s t) : KeepsPorts s t := by
  cases h with
  | t2a row rlen a s' hst hlt hrow hlen hm => exact { keepsPorts_memRead hm with }
  | t2b row rlen f s' hst hlt hrow hlen hm => exact { keepsPorts_memRead hm with }
  | t2c row rlen f s' hst hlt hrow hlen hm =>
    exact keepsPorts_readDecode (s' := loadRbuf f (countAttempt s')) { keepsPorts_memRead hm with } row rlen
  | t2d row rlen f g s' hst hlt hrow hlen hm => exact { keepsPorts_memRead hm with }
  | t2e row rlen f s' hst hlt hrow hlen hm => exact { keepsPorts_memRead hm with }
  | t5a s' hst hlt hm => exact { keepsPorts_memWrite hm with }
  | t5b s' hst hlt hm => exact { keepsPorts_memWrite hm with }
  | t5c s' hst hlt hm => exact { keepsPorts_memWrite hm with }
  | _ => exact ⟨rfl, rfl, rfl, rfl, rfl, rfl⟩

theorem KeepsPorts.quiet (h : KeepsPorts s t) (hq : Claims.Quiet s) : Claims.Quiet t :=
  ⟨h.rst_eq.trans hq.1, h.cfgPort_eq.trans hq.2⟩

/-! ## The response of a verified write -/

theorem exhaustKind_ne_noError (k : FailKind) : exhaustKind k ≠ .noError := by cases k <;> decide

/-- A verified write is answered `NoError` by the match of the compare step only (rule R245). -/
theorem match_of_transition (h : Transition P s t) (hmode : s.mode = .wrv ∨ s.mode = .rmw) (hbusy : s.st ≠ .done)
    (hst : t.st = .done) (hres : t.res = .noError) :
    s.st = .cmp ∧ ∃ row c wlen rlen, rowOf P.cmdtab s.cmdr = some row ∧ row.verify = some c ∧ row.wlen = some wlen ∧
      row.rlen = some rlen ∧ verifyMatch P Config.clockTol c (pay s.wbuf wlen) (pay s.rbuf rlen) = true := by
  cases h with
  | t7match row c wlen rlen hcmp hrow hc hw hr hv => exact ⟨hcmp, row, c, wlen, rlen, hrow, hc, hw, hr, hv⟩
  | t1 => exact absurd hres (exhaustKind_ne_noError _)
  | t2c row rlen f s' _ _ _ _ _ _ _ hrd => simp [hrd] at hmode
  | t5b s' _ _ _ hwr => simp [hwr] at hmode
  | _ => simp_all

end

theorem configure_st (w : CfgWrite) (s : State) : (configure w s).st = s.st := by
  rcases configure_spec w s with ⟨-, -, he⟩ | ⟨-, -, he⟩ | ⟨-, he⟩ <;> rw [he]

theorem configure_requests (w : CfgWrite) (s : State) :
    (configure w s).reqs = s.reqs ∧ (configure w s).opN = s.opN ∧ (configure w s).opArgs = s.opArgs ∧
      (configure w s).opBytes = s.opBytes := by
  rcases configure_spec w s with ⟨-, -, he⟩ | ⟨-, -, he⟩ | ⟨-, he⟩ <;> rw [he] <;> exact ⟨rfl, rfl, rfl, rfl⟩

/-- A step outside `IDLE` is a reset, a configuration write that the engine ignores, or a transition (rules R220, R301). -/
theorem step_cases_of_busy {s t : State} (hst : s.st ≠ .idle) (h : step s = .next t) :
    (s.rst = true ∧ t = resetEngine s) ∨ (s.rst = false ∧ ∃ w, s.cfgPort = some w ∧ t = configure w s) ∨
      (s.rst = false ∧ s.cfgPort = none ∧ Transition defaults s t) := by
  rcases step_cases h with hr | hw | ⟨-, -, hidle, -⟩ | ht
  · exact .inl hr
  · exact .inr (.inl hw)
  · exact absurd hidle hst
  · exact .inr (.inr ht)

end Sys2Proof.Machine

namespace Sys2Proof.Claims
open Sys2Proof Sys2Proof.Machine Host

/-- Settles O7: only the acceptance of a request, which needs `IDLE`, writes those ports. -/
theorem requestsWaitWhileBusy : Obligations.RequestsWaitWhileBusy := by
  intro s t hst h
  rcases step_cases_of_busy hst h with ⟨-, rfl⟩ | ⟨-, w, -, rfl⟩ | ⟨-, -, ht⟩
  · exact ⟨rfl, rfl, rfl, rfl⟩
  · exact configure_requests w s
  · obtain ⟨hreqs, hn, hargs, hbytes, -, -⟩ := transition_keepsPorts ht
    exact ⟨hreqs, hn, hargs, hbytes⟩

/-- Settles O46: of the states that lead to `WR_TRY` by a transition, none comes after `CMP` without a new request. -/
theorem writeFailedIsFinal : Obligations.WriteFailedIsFinal := by
  intro s t h
  by_cases hidle : s.st = .idle
  · exact ⟨fun hst => by simp [hidle] at hst, fun hst => by simp [hidle] at hst, fun _ => .inr (.inr (.inl hidle))⟩
  rcases step_cases_of_busy hidle h with ⟨hrst, rfl⟩ | ⟨-, w, hw, rfl⟩ | ⟨-, -, ht⟩
  · exact ⟨fun _ => .inr (.inr ⟨rfl, hrst⟩), fun _ => .inr rfl, nofun⟩
  · rw [configure_st]
    exact ⟨fun hst => .inr (.inl ⟨hst, by simp [hw]⟩), .inl, .inl⟩
  · have hleads := transition_st ht
    refine ⟨fun hst => .inl ?_, fun hst => ?_, fun hst => ?_⟩
    · simpa [hst, leadsTo] using hleads
    · simpa [hst, leadsTo] using hleads
    · cases hs : s.st with
      | wrTry => exact .inl rfl
      | wrWait => exact .inr (.inl rfl)
      | rdTry => exact .inr (.inr (.inr ⟨rfl, preRead_of_transition ht hs hst⟩))
      | _ => simp [hs, hst, leadsTo] at hleads

/-- Settles O47: the match is the compare step's, and there the invariant gives the clean frame in `rbuf`. -/
theorem noErrorNeedsACleanMatch : Obligations.NoErrorNeedsACleanMatch := by
  intro s t hinv h hmode hidle hdone hst hres
  rcases step_cases_of_busy hidle h with ⟨-, rfl⟩ | ⟨-, w, -, rfl⟩ | ⟨-, -, ht⟩
  · cases hst
  · exact absurd ((configure_st w s).symm.trans hst) hdone
  obtain ⟨hcmp, row, c, wlen, rlen, hrow, hc, hw, hr, hv⟩ := match_of_transition ht hmode hdone hst hres
  obtain ⟨row', hrow', hshape⟩ := (shapeOk_cmp_iff hcmp).mp hinv.shape
  cases hrow.symm.trans hrow'
  obtain ⟨-, -, hver, -, hrbuf, hclean⟩ := cmpShape_iff.mp hshape
  obtain ⟨-, hrw, -⟩ := verifiable_iff.mp hver
  have hlen : rlen = wlen := Option.some.inj (hr.symm.trans (hrw.trans hw))
  subst hlen
  have hrlen : s.rbuf.length = rlen + 1 := by simpa [hr, eq_comm] using hrbuf
  exact ⟨hcmp, hclean, row, c, rlen, hrow, hc, hw, hr, hrlen, hv⟩

/-- Settles O48: only `IDLE`, `DONE` and a reset lead to `IDLE`. -/
theorem noCancellation : Obligations.NoCancellation := by
  intro s t h hrst hidle hdone
  rcases step_cases_of_busy hidle h with ⟨hr, -⟩ | ⟨-, w, -, rfl⟩ | ⟨-, -, ht⟩
  · simp [hrst] at hr
  · rwa [configure_st]
  · intro hst
    have hleads := transition_st ht
    rw [hst] at hleads
    cases hs : s.st <;> simp_all [leadsTo]

end Sys2Proof.Claims
end

section
/-! Bounded retry (rules R227 to R233): a failed attempt and its wait are two steps that change the count of attempts, the
record of the calls and the time only, and a Transport that fails repeats them. -/

namespace Sys2Proof.Claims
open Sys2Proof Sys2Proof.Machine Host

/-! ## Runs -/

theorem run_add {M : Host.Core} {s t : M.State} {j : Nat} (h : M.run j s = .next t) (k : Nat) :
    M.run (j + k) s = M.run k t := by
  induction j generalizing s with
  | zero =>
    cases h
    rw [Nat.zero_add]
  | succ j ih =>
    rw [Nat.succ_add, Host.Core.run]
    rw [Host.Core.run] at h
    cases hs : M.step s with
    | next s' => exact ih (by simpa only [hs] using h)
    | fault r => simp [hs] at h
    | refused r => simp [hs] at h

/-- A run and one more step. -/
theorem run_then_step {s t u : State} {j : Nat} (h : Host.Core.run Sys2Proof.core j s = .next t)
    (hstep : step t = .next u) : Host.Core.run Sys2Proof.core (j + 1) s = .next u :=
  (run_add (M := Sys2Proof.core) h 1).trans (run_succ_of_step (M := Sys2Proof.core) hstep 0)

theorem run_two_steps {s t u : State} (h : step s = .next t) (h' : step t = .next u) :
    Host.Core.run Sys2Proof.core 2 s = .next u :=
  run_then_step (run_succ_of_step (M := Sys2Proof.core) h 0) h'

/-! ## The state after failed attempts -/

/-- The script entry of a call that fails. -/
def failing : Override := { before := [], rule := .ioError }

/-- `s` after one attempt more has failed and the delay `d` has passed: the attempt is counted, its call `c` recorded, its
script entry used up. -/
def failedOnce (c : Call) (d : Nat) (s : State) : State :=
  { s with tries := s.tries + 1, script := s.script.tail, trace := c :: s.trace, elapsed := s.elapsed + d }

/-- `s` after the first `j` attempts of a phase have failed, each with the call `c`, at the time `e`. -/
def afterFailures (c : Call) (j e : Nat) (s : State) : State :=
  { s with tries := BitVec.ofNat 8 j, script := s.script.drop j, trace := List.replicate j c ++ s.trace, elapsed := e }

section
variable {s : State} (c : Call) (e : Nat)

theorem afterFailures_zero (h : s.tries = 0) : afterFailures c 0 s.elapsed s = s := by
  cases s
  cases h
  rfl

theorem failedOnce_afterFailures (d j : Nat) :
    failedOnce c d (afterFailures c j e s) = afterFailures c (j + 1) (e + d) s := by
  simp [failedOnce, afterFailures, BitVec.ofNat_add, List.replicate_succ]

/-- Attempts are left as long as fewer than `n` were made (rule R227). -/
theorem afterFailures_lt {j : Nat} (h : j < s.n.toNat) : (afterFailures c j e s).tries < (afterFailures c j e s).n := by
  have := s.n.isLt
  simp only [afterFailures, BitVec.lt_def, BitVec.toNat_ofNat]
  omega

theorem afterFailures_exhausted : (afterFailures c s.n.toNat e s).tries = (afterFailures c s.n.toNat e s).n := by
  simp [afterFailures]

theorem nextOverride_afterFailures_of_lt {j k : Nat} {r : AnswerRule} (h : s.script = failsThen k r) (hj : j < k) :
    nextOverride (afterFailures c j e s) = failing := by
  simp [nextOverride, afterFailures, h, failsThen, failing, List.headD_eq_head?_getD, List.head?_drop,
    List.getElem?_append, hj]

theorem nextOverride_afterFailures_last {k : Nat} {r : AnswerRule} (h : s.script = failsThen k r) :
    nextOverride (afterFailures c k e s) = { before := [], rule := r } := by
  simp [nextOverride, afterFailures, h, failsThen]

/-- Attempts that fail one after another: each is two steps, the attempt and its wait. -/
theorem run_afterFailures {c : Call} {m : Nat} (h : s.tries = 0)
    (hround : ∀ j < m, ∀ e, ∃ d, Host.Core.run Sys2Proof.core 2 (afterFailures c j e s) =
      .next (failedOnce c d (afterFailures c j e s))) :
    ∃ e, Host.Core.run Sys2Proof.core (2 * m) s = .next (afterFailures c m e s) := by
  induction m with
  | zero => exact ⟨s.elapsed, congrArg Outcome.next (afterFailures_zero c h).symm⟩
  | succ m ih =>
    obtain ⟨e, he⟩ := ih fun j hj => hround j (by omega)
    obtain ⟨d, hd⟩ := hround m (by omega) e
    rw [failedOnce_afterFailures] at hd
    exact ⟨e + d, (run_add (M := Sys2Proof.core) he 2).trans hd⟩

end

/-! ## Reads -/

/-- The read call of an attempt, for a frame with a payload of `rlen` bytes (rules R54, R221). -/
def readCall (rlen : Nat) (s : State) : Call := .read s.cfgBus s.cfgAddr s.cmdr (rlen + 1)

section
variable {P : Params} {s : State} {row : CmdRow} {rlen : Nat}

theorem readAnswer_failing (h : nextOverride s = failing) (reg : Byte) (len : Nat) :
    readAnswer P reg len s = some none := by
  simp only [readAnswer, h, failing]

theorem readAnswer_reply {f : Bytes} (h : nextOverride s = { before := [], rule := .reply f }) (reg : Byte) (len : Nat) :
    readAnswer P reg len s = some (some f) := by
  simp only [readAnswer, h]

/-- A failed read attempt and its wait (T2a and T3). -/
theorem run_failedRead (hq : Quiet s) (hst : s.st = .rdTry) (hcomm : s.lastfail = .comm)
    (hrow : rowOf cmdtab s.cmdr = some row) (hlen : row.rlen = some rlen) (hlt : s.tries < s.n)
    (hnext : nextOverride s = failing) :
    ∃ d, Host.Core.run Sys2Proof.core 2 s = .next (failedOnce (readCall rlen s) d s) := by
  have hattempt := (failedReadAttempt s row rlen none hq hst hlt hrow hlen (readAnswer_failing hnext _ _)).1 nofun
  rw [devBefore_of_no_changes defaults (by rw [hnext]; rfl)] at hattempt
  refine ⟨backoff (s.tries + 1).toNat + Config.cooldown,
    (run_two_steps hattempt (step_of_rdWait ⟨hq.1, hq.2⟩ rfl)).trans (congrArg Outcome.next ?_)⟩
  rw [failedOnce, hst, hcomm]
  rfl

/-- `m` reads that fail, of a Transport that fails `k` times. -/
theorem run_failedReads {k m : Nat} {r : AnswerRule} (hq : Quiet s) (hst : s.st = .rdTry) (htries : s.tries = 0)
    (hcomm : s.lastfail = .comm) (hrow : rowOf cmdtab s.cmdr = some row) (hlen : row.rlen = some rlen)
    (hscript : s.script = failsThen k r) (hk : m ≤ k) (hn : m ≤ s.n.toNat) :
    ∃ e, Host.Core.run Sys2Proof.core (2 * m) s = .next (afterFailures (readCall rlen s) m e s) :=
  run_afterFailures htries fun j hj e => run_failedRead (s := afterFailures (readCall rlen s) j e s) hq hst hcomm hrow hlen
    (afterFailures_lt _ e (by omega)) (nextOverride_afterFailures_of_lt _ e hscript (by omega))

end

/-! ## Writes -/

/-- The write call of an attempt: `wbuf[0 .. wlen-1]` (rule R231). -/
def writeCall (s : State) : Call := .write s.cfgBus s.cfgAddr s.cmdr (s.wbuf.take s.wlen.toNat)

section
variable {P : Params} {s : State}

theorem writeAnswer_failing (h : nextOverride s = failing) (reg : Byte) (f : Bytes) :
    writeAnswer P reg f s = some (false, s.dev) := by
  simp only [writeAnswer, h, failing, devBefore_of_no_changes P (s := s) (by rw [h]; rfl)]

theorem writeAnswer_reply {g : Bytes} (h : nextOverride s = { before := [], rule := .reply g }) (reg : Byte) (f : Bytes) :
    writeAnswer P reg f s = some (true, s.dev) := by
  simp only [writeAnswer, h, devBefore_of_no_changes P (s := s) (by rw [h])]

/-- A failed write attempt and its wait (T5a and T6). -/
theorem run_failedWrite (hq : Quiet s) (hst : s.st = .wrTry) (hlt : s.tries < s.n) (hnext : nextOverride s = failing) :
    ∃ d, Host.Core.run Sys2Proof.core 2 s = .next (failedOnce (writeCall s) d s) := by
  have hattempt := (writeAttempt s false s.dev hq hst hlt (writeAnswer_failing hnext _ _)).1 rfl
  refine ⟨backoff (s.tries + 1).toNat + Config.cooldown,
    (run_two_steps hattempt (step_of_wrWait ⟨hq.1, hq.2⟩ rfl)).trans (congrArg Outcome.next ?_)⟩
  rw [failedOnce, hst]
  rfl

/-- `m` writes that fail, of a Transport that fails `k` times. -/
theorem run_failedWrites {k m : Nat} {r : AnswerRule} (hq : Quiet s) (hst : s.st = .wrTry) (htries : s.tries = 0)
    (hscript : s.script = failsThen k r) (hk : m ≤ k) (hn : m ≤ s.n.toNat) :
    ∃ e, Host.Core.run Sys2Proof.core (2 * m) s = .next (afterFailures (writeCall s) m e s) :=
  run_afterFailures htries fun j hj e => run_failedWrite (s := afterFailures (writeCall s) j e s) hq hst
    (afterFailures_lt _ e (by omega)) (nextOverride_afterFailures_of_lt _ e hscript (by omega))

end

/-! ## The attempt after them -/

/-- `DEC` answers a frame alike in two states that agree on the registers an error leaves (rule R30). -/
theorem exec_dec_response {d : Instr × CmdRow} (hd : d ∈ decs) {s u s' : State} {p : Bytes}
    (hlen : d.2.rlen = some p.length) (h : exec d.1 s = .next s') (hs : s.opBytes = appendCk p)
    (hu : u.opBytes = appendCk p) (hval : s.rval = u.rval) (hnv : s.rnv = u.rnv) :
    ∃ u', exec d.1 u = .next u' ∧ u'.res = s'.res ∧ u'.rval = s'.rval ∧ u'.rnv = s'.rnv := by
  rw [exec_dec_of_frame hd hlen hs] at h
  cases h
  refine ⟨_, exec_dec_of_frame hd hlen hu, ?_⟩
  cases unpack defaults d.2.layout p with
  | none => exact ⟨rfl, hval.symm, hnv.symm⟩
  | some r => exact ⟨rfl, rfl, rfl⟩

/-- Settles O52: the failed reads repeat a round of two steps; then the clean frame is answered as `DEC` answers it, or the
attempts are exhausted. -/
theorem boundedRetryOfARead : Obligations.BoundedRetryOfARead := by
  intro d hd s u f k hq hst hmode hphase htries hcomm hrow hlen hv hscript hexec
  obtain ⟨p, rfl⟩ := exists_eq_appendCk_of_verifyFrame hv
  have hrlen : d.2.rlen = some p.length := by rw [hlen, appendCk_length, Nat.add_sub_cancel]
  refine ⟨fun hk => ?_, fun hk => ?_⟩
  · obtain ⟨e, hrun⟩ := run_failedReads hq hst htries hcomm hrow hrlen hscript le_rfl hk.le
    obtain ⟨v, hv', hres, hval, hnv⟩ := exec_dec_response hd hrlen hexec
      (u := { afterFailures (readCall p.length s) k e s with opBytes := appendCk p }) rfl rfl rfl rfl
    have hans := readAnswer_reply (P := defaults) (nextOverride_afterFailures_last (readCall p.length s) e hscript)
    have hstep := cleanReadAnswersAsDec d hd (afterFailures (readCall p.length s) k e s) v _ hq hst hmode
      (afterFailures_lt _ e hk) hrow hlen hv (hans _ _) hv'
    refine ⟨_, run_then_step hrun hstep, rfl, hres, hval, hnv, ?_⟩
    simp only [afterFailures, List.length_cons, List.length_append, List.length_replicate]
    omega
  · obtain ⟨e, hrun⟩ := run_failedReads hq hst htries hcomm hrow hrlen hscript hk le_rfl
    have hstep := (exhaustedPhaseGivesUp (afterFailures (readCall p.length s) s.n.toNat e s) hq
      (afterFailures_exhausted _ e)).1 hst
    refine ⟨_, run_then_step hrun hstep, rfl, ?_, ?_⟩
    · exact if_neg (by simp [afterFailures, hcomm])
    · simp only [refusedDone, afterFailures, List.length_append, List.length_replicate]
      omega

/-- Settles O53: the failed writes repeat a round of two steps; then the write is answered, or the attempts are exhausted. -/
theorem boundedRetryOfAWrite : Obligations.BoundedRetryOfAWrite := by
  intro s f k hq hst hmode htries hscript
  refine ⟨fun hk => ?_, fun hk => ?_⟩
  · obtain ⟨e, hrun⟩ := run_failedWrites hq hst htries hscript le_rfl hk.le
    have hans := writeAnswer_reply (P := defaults) (nextOverride_afterFailures_last (writeCall s) e hscript)
    have hstep := (writeAttempt (afterFailures (writeCall s) k e s) true _ hq hst (afterFailures_lt _ e hk) (hans _ _)).2.1
      rfl hmode
    exact ⟨_, run_then_step hrun hstep, rfl, rfl, rfl, rfl⟩
  · obtain ⟨e, hrun⟩ := run_failedWrites hq hst htries hscript hk le_rfl
    have hstep := (exhaustedPhaseGivesUp (afterFailures (writeCall s) s.n.toNat e s) hq
      (afterFailures_exhausted _ e)).2 hst
    exact ⟨_, run_then_step hrun hstep, rfl, rfl, rfl⟩

end Sys2Proof.Claims
end

section
/-! Termination of a transfer (rule R247): every call that returns uses up an attempt of the phases still to come, and every
other step of a request leads towards the next call or the response. -/

namespace Sys2Proof.Machine
open Host

/-! ## What is left of a request -/

/-- How many phases come after the one in progress, each with its own `n` attempts (rules R221, R234). -/
def phasesLeft (s : State) : Nat :=
  match s.mode, s.phase with
  | .rmw, .pre => 2
  | .wrv, .write => 1
  | .rmw, .write => 1
  | _, _ => 0

/-- The attempts left: those of the phase in progress and those of the phases after it (rule R227). -/
def attemptsLeft (s : State) : Nat := s.n.toNat - s.tries.toNat + phasesLeft s * s.n.toNat

/-- A bound on the calls before the response. -/
def callsLeft (s : State) : Nat :=
  match s.st with
  | .idle => 0
  | .cmp => 0
  | .done => 0
  | _ => attemptsLeft s

/-- A bound on the steps before the response: an attempt takes two with its wait, and each phase one more to end. -/
def stepsLeft (s : State) : Nat :=
  match s.st with
  | .idle => 0
  | .rdTry => 2 * attemptsLeft s + phasesLeft s + 1
  | .wrTry => 2 * attemptsLeft s + phasesLeft s + 1
  | .rdWait => 2 * attemptsLeft s + phasesLeft s + 2
  | .wrWait => 2 * attemptsLeft s + phasesLeft s + 2
  | .cmp => 1
  | .done => 0

theorem stepsLeft_le (s : State) : stepsLeft s ≤ 2 * attemptsLeft s + phasesLeft s + 2 := by
  unfold stepsLeft
  split <;> omega

theorem callsLeft_le (s : State) : callsLeft s ≤ attemptsLeft s := by
  unfold callsLeft
  split <;> omega

theorem stepsLeft_of_try {s : State} (h : s.st = .rdTry ∨ s.st = .wrTry) :
    stepsLeft s = 2 * attemptsLeft s + phasesLeft s + 1 := by
  rcases h with h | h <;> simp only [stepsLeft, h]

theorem callsLeft_of_try {s : State} (h : s.st = .rdTry ∨ s.st = .wrTry) : callsLeft s = attemptsLeft s := by
  rcases h with h | h <;> simp only [callsLeft, h]

/-! ## An attempt -/

/-- `t` has fewer attempts left than `s`, and no more phases. -/
def SpendsAttempt (s t : State) : Prop := attemptsLeft t < attemptsLeft s ∧ phasesLeft t ≤ phasesLeft s

section
variable {s t : State}

/-- An attempt that is counted (rule R227). -/
theorem spendsAttempt_of_counted (hlt : s.tries < s.n) (hn : t.n = s.n) (htries : t.tries = s.tries + 1)
    (hmode : t.mode = s.mode) (hphase : t.phase = s.phase) : SpendsAttempt s t := by
  have hleft : phasesLeft t = phasesLeft s := by rw [phasesLeft, phasesLeft, hmode, hphase]
  have htoNat : (s.tries + 1).toNat = s.tries.toNat + 1 := by bv_omega
  have hltNat : s.tries.toNat < s.n.toNat := hlt
  refine ⟨?_, hleft.le⟩
  rw [attemptsLeft, attemptsLeft, hleft, hn, htries, htoNat]
  omega

/-- An attempt that starts the next phase with its own attempts (rule R234). -/
theorem spendsAttempt_of_next_phase (hlt : s.tries < s.n) (hn : t.n = s.n) (htries : t.tries = 0)
    (hphases : phasesLeft s = phasesLeft t + 1) : SpendsAttempt s t := by
  have hltNat : s.tries.toNat < s.n.toNat := hlt
  refine ⟨?_, by omega⟩
  rw [attemptsLeft, attemptsLeft, hphases, hn, htries, Nat.succ_mul]
  simp only [BitVec.ofNat_eq_ofNat, BitVec.toNat_ofNat]
  omega

/-- A step towards the response: fewer steps are left, and what calls are made come off the calls left. -/
structure Progress (s t : State) : Prop where
  steps_lt : stepsLeft t < stepsLeft s
  calls_le : t.trace.length + callsLeft t ≤ s.trace.length + callsLeft s

theorem progress_of_call {c : Call} (hst : s.st = .rdTry ∨ s.st = .wrTry) (htrace : t.trace = c :: s.trace)
    (h : SpendsAttempt s t) : Progress s t := by
  obtain ⟨hattempts, hphases⟩ := h
  have hsteps := stepsLeft_le t
  have hcalls := callsLeft_le t
  constructor
  · rw [stepsLeft_of_try hst]
    omega
  · rw [callsLeft_of_try hst, htrace, List.length_cons]
    omega

/-- A step that answers the request without a call. -/
theorem progress_of_response (hsteps : 0 < stepsLeft s) (hst : t.st = .done) (htrace : t.trace = s.trace) : Progress s t := by
  have hdone : stepsLeft t = 0 ∧ callsLeft t = 0 := by simp [stepsLeft, callsLeft, hst]
  exact ⟨hdone.1.symm ▸ hsteps, by rw [hdone.2, htrace]; omega⟩

/-- A wait that goes back to its attempt. -/
theorem progress_of_wait (hst : s.st = .rdWait ∧ t.st = .rdTry ∨ s.st = .wrWait ∧ t.st = .wrTry)
    (hattempts : attemptsLeft t = attemptsLeft s) (hphases : phasesLeft t = phasesLeft s) (htrace : t.trace = s.trace) :
    Progress s t := by
  rcases hst with ⟨hs, ht⟩ | ⟨hs, ht⟩
  · constructor <;> simp [stepsLeft, callsLeft, hs, ht, hattempts, hphases, htrace]
  · constructor <;> simp [stepsLeft, callsLeft, hs, ht, hattempts, hphases, htrace]

end

/-! ## The transitions -/

section
variable {P : Params} {s s' t : State}

/-- Every transition of a request whose calls return is a step towards its response (rule R247). -/
theorem progress_of_transition (h : Transition P s t) (hinv : InvFor P s) (hret : (nextOverride s).rule ≠ .never)
    (hidle : s.st ≠ .idle) (hdone : s.st ≠ .done) : Progress s t := by
  cases h with
  | waits hst => exact absurd hst hidle
  | t8 hst => exact absurd hst hdone
  | untaken hst => exact absurd hst hdone
  | readNever hst hlt hnever => exact absurd hnever hret
  | writeNever hst hlt hnever => exact absurd hnever hret
  | t1 hst => exact progress_of_response (by simp [stepsLeft, hst]) rfl rfl
  | t4 hst => exact progress_of_response (by simp [stepsLeft, hst]) rfl rfl
  | t7match row c wlen rlen hst => exact progress_of_response (by simp [stepsLeft, hst]) rfl rfl
  | t7fail row c wlen rlen hst => exact progress_of_response (by simp [stepsLeft, hst]) rfl rfl
  | t3 hst => exact progress_of_wait (.inl ⟨hst, rfl⟩) rfl rfl rfl
  | t6 hst => exact progress_of_wait (.inr ⟨hst, rfl⟩) rfl rfl rfl
  | t2a row rlen a s' hst hlt hrow hlen hm =>
    obtain ⟨-, rfl⟩ := memRead_spec hm
    exact progress_of_call (.inl hst) rfl (spendsAttempt_of_counted hlt rfl rfl rfl rfl)
  | t2b row rlen f s' hst hlt hrow hlen hm =>
    obtain ⟨-, rfl⟩ := memRead_spec hm
    exact progress_of_call (.inl hst) rfl (spendsAttempt_of_counted hlt rfl rfl rfl rfl)
  | t2c row rlen f s' hst hlt hrow hlen hm =>
    obtain ⟨-, rfl⟩ := memRead_spec hm
    rcases readDecode_spec P row rlen (loadRbuf f (countAttempt (recordCall _ _ s))) with ⟨v, nv, he⟩ | ⟨k, he⟩ <;>
      rw [he] <;> exact progress_of_call (.inl hst) rfl (spendsAttempt_of_counted hlt rfl rfl rfl rfl)
  | t2d row rlen f g s' hst hlt hrow hlen hm hf hv hmode hphase =>
    obtain ⟨-, rfl⟩ := memRead_spec hm
    refine progress_of_call (.inl hst) rfl (spendsAttempt_of_next_phase hlt rfl rfl ?_)
    simp [phasesLeft, hmode, hphase]
  | t2e row rlen f s' hst hlt hrow hlen hm =>
    obtain ⟨-, rfl⟩ := memRead_spec hm
    exact progress_of_call (.inl hst) rfl (spendsAttempt_of_counted hlt rfl rfl rfl rfl)
  | t5a s' hst hlt hm =>
    obtain ⟨d, -, rfl⟩ := memWrite_spec hm
    exact progress_of_call (.inr hst) rfl (spendsAttempt_of_counted hlt rfl rfl rfl rfl)
  | t5b s' hst hlt hm =>
    obtain ⟨d, -, rfl⟩ := memWrite_spec hm
    exact progress_of_call (.inr hst) rfl (spendsAttempt_of_counted hlt rfl rfl rfl rfl)
  | t5c s' hst hlt hm hmode =>
    obtain ⟨row, -, hshape⟩ := (shapeOk_write_iff (.inl hst)).mp hinv.shape
    obtain ⟨hphase, -, -⟩ := writeShape_iff.mp hshape
    obtain ⟨d, -, rfl⟩ := memWrite_spec hm
    refine progress_of_call (.inr hst) rfl (spendsAttempt_of_next_phase hlt rfl rfl ?_)
    rcases hmode with hm | hm <;> simp [phasesLeft, hm, hphase]

theorem memRead_script {reg : Byte} {len : Nat} {a : Option Bytes} (h : memRead P reg len s = some (a, s')) :
    s'.script ⊆ s.script := by
  obtain ⟨-, rfl⟩ := memRead_spec h
  exact List.tail_subset _

theorem memWrite_script {reg : Byte} {f : Bytes} {ok : Bool} (h : memWrite P reg f s = some (ok, s')) :
    s'.script ⊆ s.script := by
  obtain ⟨d, -, rfl⟩ := memWrite_spec h
  exact List.tail_subset _

theorem readDecode_script (row : CmdRow) (rlen : Nat) : (readDecode P row rlen s).script = s.script := by
  rcases readDecode_spec P row rlen s with ⟨v, nv, he⟩ | ⟨k, he⟩ <;> rw [he] <;> rfl

/-- A transition does not add to the script (rule R64). -/
theorem transition_script (h : Transition P s t) : t.script ⊆ s.script := by
  cases h with
  | t2a row rlen a s' hst hlt hrow hlen hm => exact (memRead_script hm :)
  | t2b row rlen f s' hst hlt hrow hlen hm => exact (memRead_script hm :)
  | t2c row rlen f s' hst hlt hrow hlen hm =>
    rw [readDecode_script]
    exact (memRead_script hm :)
  | t2d row rlen f g s' hst hlt hrow hlen hm => exact (memRead_script hm :)
  | t2e row rlen f s' hst hlt hrow hlen hm => exact (memRead_script hm :)
  | t5a s' hst hlt hm => exact (memWrite_script hm :)
  | t5b s' hst hlt hm => exact (memWrite_script hm :)
  | t5c s' hst hlt hm => exact (memWrite_script hm :)
  | _ => exact List.Subset.refl _

end

/-! ## The start of a request -/

/-- A start does not depend on the state of the engine before it (rule R33). -/
theorem Start.enter_of_idle (e : Start) (s : State) : e.enter { s with st := .idle } = e.enter s := by cases e <;> rfl

end Sys2Proof.Machine

namespace Sys2Proof.Claims
open Sys2Proof Sys2Proof.Machine Host

/-- A transfer request starts as one of the forms of `Start`, and its first state meets the invariant (rules R29, R33). -/
theorem start_of_exec {i : Instr} {s0 s : State} (hi : IsXfer i) (hinv : Inv s0) (h : exec i s0 = .next s) :
    Inv s ∧ ∃ e : Start, s = e.enter s0 := by
  obtain ⟨e, hs, hidle⟩ := requestFor_startedAlike defaults (s := s0) (u := { s0 with st := .idle }) hi rfl
  rw [exec_eq_requestFor, hs] at h
  cases h
  refine ⟨?_, e, rfl⟩
  obtain ⟨t, ht, ha⟩ := exec_accepted i { s0 with st := .idle }
  rw [exec_eq_requestFor, hidle, Start.enter_of_idle] at ht
  cases ht
  obtain ⟨hregs, -⟩ := invFor_iff.mp hinv
  exact invFor_of_accepted defaults_wellFormed (s := { s0 with st := .idle }) { hregs with } rfl ha

theorem nextOverride_ne_never {s : State} (h : AllReturn s) : (nextOverride s).rule ≠ .never := by
  unfold nextOverride
  cases hs : s.script with
  | nil => nofun
  | cons o rest => exact h o (by simp [hs])

/-- A request in progress whose calls return reaches `DONE` within the steps and the calls left to it. -/
theorem run_to_done {s : State} (hinv : Inv s) (hq : Quiet s) (hret : AllReturn s) (hidle : s.st ≠ .idle) :
    ∃ k t, k ≤ stepsLeft s ∧ Host.Core.run Sys2Proof.core k s = .next t ∧ t.st = .done ∧
      t.trace.length ≤ s.trace.length + callsLeft s := by
  induction hm : stepsLeft s using Nat.strong_induction_on generalizing s with
  | _ m ih =>
    by_cases hdone : s.st = .done
    · exact ⟨0, s, by omega, rfl, hdone, by omega⟩
    obtain ⟨u, hstep⟩ := invariantStatesHaveASuccessor.1 s hinv
    have ht : Transition defaults s u := fsmStep_transition ((step_of_quiet hq hidle).symm.trans hstep)
    obtain ⟨hsteps, hcalls⟩ := progress_of_transition ht hinv (nextOverride_ne_never hret) hidle hdone
    obtain ⟨k, t, hk, hrun, hst, htrace⟩ := ih (stepsLeft u) (by omega) (everyStepKeepsTheInvariant.1 s u hinv hstep)
      ((transition_keepsPorts ht).quiet hq) (fun o ho => hret o (transition_script ht ho))
      (noCancellation s u hstep hq.1 hidle hdone) rfl
    exact ⟨k + 1, t, by omega, (run_succ_of_step (M := Sys2Proof.core) hstep k).trans hrun, hst, by omega⟩

/-- At its start a request has the attempts that rule R247 gives its operation. -/
theorem attemptsLeft_le_maxCalls {s : State} (h : s.tries = 0) : attemptsLeft s ≤ maxCalls s.mode s.n.toNat := by
  rw [attemptsLeft, phasesLeft, h]
  cases s.mode <;> cases s.phase <;> simp [maxCalls] <;> omega

theorem maxCalls_le (m : Mode) (n : Nat) : maxCalls m n ≤ 3 * n := by cases m <;> simp only [maxCalls] <;> omega

theorem phasesLeft_le (s : State) : phasesLeft s ≤ 2 := by
  unfold phasesLeft
  split <;> omega

/-- A request that starts with a call reaches `DONE` within the bounds of rule R247. -/
theorem run_start_to_done {s : State} (hinv : Inv s) (hq : Quiet s) (hret : AllReturn s)
    (hst : s.st = .rdTry ∨ s.st = .wrTry) (htries : s.tries = 0) :
    ∃ k t, k ≤ 6 * s.n.toNat + 3 ∧ Host.Core.run Sys2Proof.core k s = .next t ∧ t.st = .done ∧
      t.trace.length ≤ s.trace.length + maxCalls s.mode s.n.toNat := by
  have hidle : s.st ≠ .idle := by rcases hst with h | h <;> rw [h] <;> decide
  obtain ⟨k, t, hk, hrun, hdone, htrace⟩ := run_to_done hinv hq hret hidle
  have hattempts := attemptsLeft_le_maxCalls htries
  have hcalls := maxCalls_le s.mode s.n.toNat
  have hphases := phasesLeft_le s
  rw [stepsLeft_of_try hst] at hk
  rw [callsLeft_of_try hst] at htrace
  exact ⟨k, t, by omega, hrun, hdone, by omega⟩

/-- Settles O54: a refused request is in `DONE` at once, and any other starts with a call and all its attempts. -/
theorem transferTerminates : Obligations.TransferTerminates := by
  intro i s0 s hi hinv hq hret h
  obtain ⟨hinv', e, rfl⟩ := start_of_exec hi hinv h
  cases e with
  | refuse k => exact ⟨0, _, by omega, rfl, rfl, Nat.le_add_right _ _⟩
  | read m c nv => exact run_start_to_done hinv' hq hret (.inl rfl) rfl
  | write m c nv f => exact run_start_to_done hinv' hq hret (.inr rfl) rfl

end Sys2Proof.Claims
end

section
/-! The kinds a response can carry (rules R260, R263): those of the engine itself, and those that the rows of its command
table name. -/

namespace Sys2Proof.Machine
open Host

/-! ## The kinds a layout names (rules R86, R93 to R104) -/

/-- The kinds that operands of a layout are refused with: `BadArgument` and the `Invalid*` kinds its table names. -/
def layoutKinds : Layout → List ErrorKind
  | .lDuty => [.badArgument, .invalidDutyCycle]
  | .lTime =>
    [.badArgument, .invalidSecond, .invalidMinute, .invalidHour, .invalidWeekday, .invalidDay, .invalidMonth, .invalidYear]
  | .lAlarm => [.badArgument, .invalidSecond, .invalidMinute, .invalidPeriod, .invalidHour, .invalidWeekday, .invalidDay]
  | .fields fs => .badArgument :: fs.map (fun f => kindErr f.kind)
  | .lStatus | .lTemp | .lS16 | .lCtrl | .lU8 | .lPairs => [.badArgument]

theorem badArgument_mem_layoutKinds (l : Layout) : .badArgument ∈ layoutKinds l := by
  cases l <;> exact List.mem_cons_self

theorem kindErr_mem_layoutKinds {fs : List LayoutField} {g : Group} {f : LayoutField} (hf : fieldOf fs g = some f) :
    kindErr f.kind ∈ layoutKinds (.fields fs) :=
  List.mem_cons_of_mem _ (List.mem_map_of_mem (List.mem_of_find?_eq_some hf))

/-! ## The error of one operand -/

section
variable {pos : Nat} {o : Operand} {k : ErrorKind}

theorem signedField_error {n : Nat} (h : signedField pos n o = .error k) : k = .badArgument := by
  unfold signedField at h
  split at h
  · split at h <;> cases h
    rfl
  · cases h
    rfl

theorem batteryField_error (h : batteryField pos o = .error k) : k = .badArgument := by
  unfold batteryField at h
  split at h <;> cases h
  rfl

theorem inputField_error (h : inputField pos o = .error k) : k = .badArgument := by
  unfold inputField at h
  split at h <;> cases h
  rfl

theorem enumField_error {w : Nat} {names : List Operand} (h : enumField pos w names o = .error k) : k = .badArgument := by
  unfold enumField at h
  split at h <;> cases h
  rfl

theorem maskField_error {nbits : Nat} {e : ErrorKind} (h : maskField pos nbits e o = .error k) : k = e := by
  unfold maskField at h
  split at h
  case h_3 => cases h
  case h_4 => cases h; rfl
  all_goals
    split at h <;> cases h
    rfl

/-- A field kind refuses an operand with the error it names (rules R86, R93). -/
theorem kindField_error {kind : FieldKind} (h : kindField pos kind o = .error k) : k = kindErr kind := by
  cases kind with
  | flag => exact flagField_error h
  | uint w lo hi e => exact uintField_error_kind h
  | enum w names => exact enumField_error h
  | s8 => exact signedField_error h
  | s16 => exact signedField_error h
  | duty10 => exact dutyField_error h
  | mask nbits e => exact maskField_error h

theorem timeHourField_error (h : timeHourField o = .error k) : k = .invalidHour := by
  unfold timeHourField at h
  split at h
  case h_4 => cases h; rfl
  all_goals
    split at h <;> cases h
    rfl

theorem alarmMinuteField_error {P : Params} (h : alarmMinuteField P o = .error k) :
    k = .invalidMinute ∨ k = .invalidPeriod := by
  unfold alarmMinuteField at h
  split at h
  · split at h <;> cases h
    exact .inl rfl
  · split at h <;> cases h
    exact .inr rfl
  · cases h
    exact .inl rfl

theorem alarmHourField_error (h : alarmHourField o = .error k) : k = .invalidHour := by
  unfold alarmHourField at h
  split at h <;> cases h
  rfl

theorem alarmDayField_error (h : alarmDayField o = .error k) : k = .invalidDay ∨ k = .invalidWeekday := by
  unfold alarmDayField at h
  split at h
  · split at h <;> cases h
    exact .inl rfl
  case h_4 => cases h
  case h_5 => cases h; exact .inr rfl
  all_goals
    split at h <;> cases h
    exact .inr rfl

theorem listedField_error {fs : List LayoutField} {g : Group} (h : listedField fs g o = .error k) :
    k ∈ layoutKinds (.fields fs) := by
  unfold listedField at h
  split at h
  · rename_i f hf
    exact kindField_error h ▸ kindErr_mem_layoutKinds hf
  · cases h
    exact badArgument_mem_layoutKinds _

end

/-! ## The error of a request's operands -/

section
variable {P : Params} {l : Layout} {args : Args} {k : ErrorKind}

/-- An operand is refused with a kind that its layout names. -/
theorem convert_error_mem {g : Group} {o : Operand} (h : convert P l g o = .error k) : k ∈ layoutKinds l := by
  cases l with
  | fields fs => exact listedField_error h
  | lTime =>
    cases g with
    | hour => simp [layoutKinds, timeHourField_error h]
    | second | minute | weekday | day | month | year => simp [layoutKinds, uintField_error_kind h]
    | _ => cases h; exact badArgument_mem_layoutKinds _
  | lAlarm =>
    cases g with
    | second => simp [layoutKinds, uintField_error_kind h]
    | minute => rcases alarmMinuteField_error h with rfl | rfl <;> decide
    | hour => simp [layoutKinds, alarmHourField_error h]
    | day => rcases alarmDayField_error h with rfl | rfl <;> decide
    | _ => cases h; exact badArgument_mem_layoutKinds _
  | lDuty =>
    cases g with
    | duty => simp [layoutKinds, dutyField_error h]
    | _ => cases h; exact badArgument_mem_layoutKinds _
  | lStatus =>
    cases g with
    | fault | button => simp [layoutKinds, flagField_error h]
    | battery => simp [layoutKinds, batteryField_error h]
    | primaryInput | secondaryInput => simp [layoutKinds, inputField_error h]
    | _ => cases h; exact badArgument_mem_layoutKinds _
  | lTemp =>
    cases g with
    | temperature => simp [layoutKinds, signedField_error h]
    | _ => cases h; exact badArgument_mem_layoutKinds _
  | lS16 =>
    cases g with
    | value => simp [layoutKinds, signedField_error h]
    | _ => cases h; exact badArgument_mem_layoutKinds _
  | lCtrl =>
    cases g with
    | enable => simp [layoutKinds, flagField_error h]
    | _ => cases h; exact badArgument_mem_layoutKinds _
  | lU8 =>
    cases g with
    | delay => simp [layoutKinds, uintField_error_kind h]
    | _ => cases h; exact badArgument_mem_layoutKinds _
  | lPairs =>
    cases g with
    | slot i => simp [layoutKinds, slotField_error h]
    | _ => cases h; exact badArgument_mem_layoutKinds _

/-- A missing or repeated group is refused with a kind that its layout names (rule R93). -/
theorem groupErr_mem (l : Layout) (g : Group) : groupErr l g ∈ layoutKinds l := by
  cases l with
  | fields fs =>
    change (fieldOf fs g).elim .badArgument (fun f => kindErr f.kind) ∈ _
    cases hf : fieldOf fs g with
    | none => exact badArgument_mem_layoutKinds _
    | some f => exact kindErr_mem_layoutKinds hf
  | _ => cases g <;> simp [groupErr, layoutKinds]

theorem convertGroups_error_mem {all : Bool} {gs : List Group} (h : convertGroups P l args all gs = .error k) :
    k ∈ layoutKinds l := by
  obtain ⟨-, g, -, -, -, -, ⟨o, -, hc⟩ | rfl⟩ := convertGroups_error h
  · exact convert_error_mem hc
  · exact groupErr_mem l g

/-- Operands are refused with a kind that their layout names (rules R93, R143, R262 g). -/
theorem collect_error_mem {all : Bool} (h : collect P l args all = .error k) : k ∈ layoutKinds l := by
  cases hu : hasUnknown l args with
  | false => exact convertGroups_error_mem ((collect_known all hu).symm.trans h)
  | true =>
    unfold collect at h
    rw [if_pos hu] at h
    split at h
    · cases h
      exact badArgument_mem_layoutKinds l
    · split at h <;> cases h
      · exact convertGroups_error_mem ‹_›
      · exact badArgument_mem_layoutKinds l

theorem encFrame_error_mem {row : CmdRow} {wlen : Nat} {nv : Bool} (h : encFrame P row wlen nv args = .error k) :
    k ∈ layoutKinds row.layout := by
  unfold encFrame pack at h
  cases hc : collect P row.layout args true <;> rw [hc] at h <;> cases h
  exact collect_error_mem hc

end

/-! ## The kinds of a command table -/

/-- The kinds that a response can carry whatever the command: success, and the failures that the engine finds by itself. -/
def engineKinds : List ErrorKind := [.noError, .communicationError, .dataCorrupted, .writeFailed, .badArgument]

/-- The kinds that a row names: the error of its payload's decode and those of its layout's operands (rules R90, R93). -/
def rowKinds (row : CmdRow) : List ErrorKind := row.unk :: layoutKinds row.layout

/-- The kinds that the engine with the parameters `P` can report. -/
def reportedKinds (P : Params) : List ErrorKind := engineKinds ++ P.cmdtab.flatMap rowKinds

/-- No command of the default table names one of the two kinds of rule R263. -/
theorem reportedKinds_defaults :
    ∀ k ∈ reportedKinds defaults, k ≠ .invalidUsbCurrentLimit ∧ k ≠ .invalidTripPoint := by decide

/-- From `s` to `t` the register `res` is left alone, or gets a kind that the engine can report. -/
def Reports (P : Params) (s t : State) : Prop := t.res = s.res ∨ t.res ∈ reportedKinds P

section
variable {P : Params} {s s' t : State}

theorem reports_of_engineKind (h : t.res ∈ engineKinds) : Reports P s t := .inr (List.mem_append_left _ h)

theorem reports_of_rowKind {row : CmdRow} (hrow : row ∈ P.cmdtab) (h : t.res ∈ rowKinds row) : Reports P s t :=
  .inr (List.mem_append_right _ (List.mem_flatMap.mpr ⟨row, hrow, h⟩))

theorem reports_answer (v : RVal) (nv : Option Bool) : Reports P s (respond v nv s') :=
  reports_of_engineKind List.mem_cons_self

theorem reports_raiseSingle {k : ErrorKind} (hk : k ∈ engineKinds) : Reports P s (raiseSingle k s') :=
  reports_of_engineKind hk

theorem reports_raiseMulti {k : ErrorKind} (hk : k ∈ engineKinds) : Reports P s (raiseMulti k s') :=
  reports_of_engineKind hk

/-! ## The acceptance of a request -/

theorem reports_csServed (z : Bool) (h : Reports P s t) : Reports P s (csServed z s t) := by
  unfold csServed
  split
  · exact h
  · exact reports_raiseSingle (by decide)

theorem reports_codecServed (w : ReqWord) (h : Reports P s t) : Reports P s (codecServed w s t) := by
  unfold codecServed
  split
  · exact reports_raiseSingle (by decide)
  · exact h

theorem reports_transferServed (w : ReqWord) (h : Reports P s t) : Reports P s (transferServed w s t) := by
  unfold transferServed
  split
  · exact reports_raiseMulti (by decide)
  · exact h

theorem csComputeRequest_reports (P : Params) (s : State) : Reports P s (csComputeRequest P s) := by
  unfold csComputeRequest
  split
  · exact reports_answer _ _
  · exact reports_raiseSingle (by decide)

theorem csVerifyRequest_reports (P : Params) (s : State) : Reports P s (csVerifyRequest P s) := by
  unfold csVerifyRequest
  split
  · exact reports_answer _ _
  · exact reports_raiseSingle (by decide)

theorem csAppendRequest_reports (P : Params) (s : State) : Reports P s (csAppendRequest P s) := by
  unfold csAppendRequest
  split
  · exact reports_answer _ _
  · exact reports_raiseSingle (by decide)

/-- `ENC` reports a kind of its row's layout (rules R140, R143). -/
theorem encRequest_reports (P : Params) (cmd : Byte) (ch : Nat) (nv : Bool) (s : State) :
    Reports P s (encRequest P cmd ch nv s) := by
  unfold encRequest
  split
  · exact reports_raiseSingle (by decide)
  rename_i row hrow
  split
  · exact reports_raiseSingle (by decide)
  split
  · exact reports_raiseSingle (by decide)
  split
  · rename_i k hk
    exact reports_of_rowKind (lookupRow_spec hrow).1 (List.mem_cons_of_mem _ (encFrame_error_mem hk))
  · exact reports_answer _ _

/-- `DEC` reports its row's `unk` for a payload that does not unpack (rule R180). -/
theorem decRequest_reports (P : Params) (cmd : Byte) (ch : Nat) (s : State) : Reports P s (decRequest P cmd ch s) := by
  unfold decRequest
  split
  · exact reports_raiseSingle (by decide)
  rename_i row hrow
  split
  · exact reports_raiseSingle (by decide)
  rename_i rlen _
  split
  · exact reports_raiseSingle (by decide)
  split
  · rcases decodePayload_spec P row (pay s.opBytes rlen) s with ⟨r, -, h⟩ | ⟨-, h⟩ <;> rw [h]
    · exact reports_answer _ _
    · exact reports_of_rowKind (lookupRow_spec hrow).1 List.mem_cons_self
  · exact reports_raiseSingle (by decide)

theorem acceptRd_reports (P : Params) (cmd : Byte) (ch : Nat) (s : State) : Reports P s (acceptRd P cmd ch s) := by
  unfold acceptRd
  split
  · exact reports_raiseMulti (by decide)
  split
  · exact reports_raiseMulti (by decide)
  · exact .inl rfl

/-- A write is refused with a kind of its row's layout (rules R143, R222). -/
theorem acceptWrite_reports (P : Params) (m : Mode) (cmd : Byte) (ch : Nat) (nv : Bool) (s : State) :
    Reports P s (acceptWrite P m cmd ch nv s) := by
  unfold acceptWrite
  split
  · exact reports_raiseMulti (by decide)
  rename_i row hrow
  split
  · exact reports_raiseMulti (by decide)
  split
  · exact reports_raiseMulti (by decide)
  split
  · exact reports_raiseMulti (by decide)
  split
  · rename_i k hk
    exact reports_of_rowKind (lookupRow_spec hrow).1 (List.mem_cons_of_mem _ (encFrame_error_mem hk))
  · exact .inl rfl

/-- A modify is refused with a kind of its row's layout (rules R143, R222). -/
theorem acceptRmw_reports (P : Params) (cmd : Byte) (ch : Nat) (nv : Bool) (s : State) :
    Reports P s (acceptRmw P cmd ch nv s) := by
  unfold acceptRmw
  split
  · exact reports_raiseMulti (by decide)
  rename_i row hrow
  split
  · exact reports_raiseMulti (by decide)
  split
  · exact reports_raiseMulti (by decide)
  split
  · exact reports_raiseMulti (by decide)
  split
  · rename_i k hk
    exact reports_of_rowKind (lookupRow_spec hrow).1 (List.mem_cons_of_mem _ (collect_error_mem hk))
  · exact .inl rfl

/-- Every request reports a kind of the engine or of the row it names (rules R222, R260). -/
theorem requestFor_reports (P : Params) (w : ReqWord) (s : State) : Reports P s (requestFor P w s) := by
  unfold requestFor
  split
  · exact reports_csServed _ (reports_answer _ _)
  · exact reports_csServed _ (reports_answer _ _)
  · exact reports_csServed _ (csComputeRequest_reports P s)
  · exact reports_csServed _ (csVerifyRequest_reports P s)
  · exact reports_csServed _ (csAppendRequest_reports P s)
  · exact reports_codecServed w (encRequest_reports ..)
  · refine reports_codecServed w ?_
    split
    · exact reports_raiseSingle (by decide)
    · exact decRequest_reports ..
  · refine reports_transferServed w ?_
    split
    · exact reports_raiseMulti (by decide)
    · exact acceptRd_reports ..
  · exact reports_transferServed w (acceptWrite_reports ..)
  · exact reports_transferServed w (acceptWrite_reports ..)
  · exact reports_transferServed w (acceptRmw_reports ..)
  · exact reports_raiseSingle (by decide)

/-! ## The transitions of the engine -/

theorem memRead_res {reg : Byte} {len : Nat} {a : Option Bytes} (h : memRead P reg len s = some (a, s')) :
    s'.res = s.res := by
  obtain ⟨-, rfl⟩ := memRead_spec h
  rfl

theorem memWrite_res {reg : Byte} {f : Bytes} {ok : Bool} (h : memWrite P reg f s = some (ok, s')) : s'.res = s.res := by
  obtain ⟨d, -, rfl⟩ := memWrite_spec h
  rfl

/-- The decode step reports its row's `unk` for a payload that does not unpack (rule R230). -/
theorem readDecode_reports {row : CmdRow} (hrow : row ∈ P.cmdtab) (rlen : Nat) :
    Reports P s (readDecode P row rlen s') := by
  unfold readDecode
  rcases decodePayload_spec P row (pay s'.rbuf rlen) s' with ⟨r, -, h⟩ | ⟨-, h⟩ <;> rw [h]
  · exact reports_of_engineKind List.mem_cons_self
  · exact reports_of_rowKind hrow List.mem_cons_self

/-- An exhausted read phase reports one of two kinds (rule R229). -/
theorem exhaustKind_mem (k : FailKind) : exhaustKind k ∈ engineKinds := by cases k <;> decide

/-- A transition reports a kind of the engine, or its row's `unk` (rules R221, R260). -/
theorem transition_reports (h : Transition P s t) : Reports P s t := by
  cases h with
  | t1 => exact reports_raiseMulti (exhaustKind_mem s.lastfail)
  | t2a row rlen a s' hst hlt hrow hlen hm => exact .inl (memRead_res hm :)
  | t2b row rlen f s' hst hlt hrow hlen hm => exact .inl (memRead_res hm :)
  | t2c row rlen f s' hst hlt hrow => exact readDecode_reports (rowOf_mem hrow) rlen
  | t2d row rlen f g s' hst hlt hrow hlen hm => exact .inl (memRead_res hm :)
  | t2e row rlen f s' hst hlt hrow hlen hm => exact .inl (memRead_res hm :)
  | t4 => exact reports_raiseMulti (by decide)
  | t5a s' hst hlt hm => exact .inl (memWrite_res hm :)
  | t5b => exact reports_of_engineKind List.mem_cons_self
  | t5c s' hst hlt hm => exact .inl (memWrite_res hm :)
  | t7match => exact reports_of_engineKind List.mem_cons_self
  | t7fail => exact reports_raiseMulti (by decide)
  | _ => exact .inl rfl

end

/-! ## The step -/

theorem configure_res (w : CfgWrite) (s : State) : (configure w s).res = s.res := by
  rcases configure_spec w s with ⟨-, -, he⟩ | ⟨-, -, he⟩ | ⟨-, he⟩ <;> rw [he]

/-- A step leaves `res` alone, or writes a kind of the engine or of a row of the default table (rule R260). -/
theorem step_reports {s t : State} (h : step s = .next t) : Reports defaults s t := by
  rcases step_cases h with ⟨-, rfl⟩ | ⟨-, w, -, rfl⟩ | ⟨hrst, hcfg, hst, r, rest, hreqs, -⟩ | ⟨-, -, ht⟩
  · exact reports_of_engineKind List.mem_cons_self
  · exact .inl (configure_res w s)
  · rw [step_of_request hrst hcfg hst hreqs] at h
    cases h
    exact requestFor_reports defaults r.word (Claims.atPort r rest s)
  · exact transition_reports ht

end Sys2Proof.Machine

namespace Sys2Proof.Claims
open Sys2Proof Sys2Proof.Machine Host

/-- Settles O51: a kind that a step writes is one that the engine or a row of the default table names, and the two of rule
R263 are not among them. -/
theorem usbAndTripKindsAreNeverProduced : Obligations.UsbAndTripKindsAreNeverProduced := by
  intro s t h hkind
  refine (step_reports h).resolve_right fun hmem => ?_
  obtain ⟨husb, htrip⟩ := reportedKinds_defaults t.res hmem
  exact hkind.elim husb htrip

end Sys2Proof.Claims
end
